-- ==== Sys2Proof/Word.lean ====
section
/-! DEFINITION. The word types of the DMAC core (00_scope.md R9, R10, R11, R14): bytes, 32-bit words, 128-bit
quadwords, 24-bit engine S addresses, 14-bit scratchpad offsets, and the channel numbers of the two engines. -/

namespace Sys2Proof

/-- One byte of a memory. -/
abbrev Byte := BitVec 8

/-- A 32-bit register value or address (R11). -/
abbrev Word := BitVec 32

/-- A 128-bit quadword: the unit of engine P, and an engine P tag (R9, R10). -/
abbrev Quad := BitVec 128

/-- The 64-bit payload of an engine P tag (R157). -/
abbrev Payload := BitVec 64

/-- An engine S memory address (R11, R103). -/
abbrev AddrS := BitVec 24

/-- A byte offset in the 16 KiB scratchpad (R39, R102). -/
abbrev SprAddr := BitVec 14

/-- A channel of engine P, 0 to 9 (R8). -/
abbrev PChan := Fin 10

/-- A channel of engine S, 0 to 12 (R8). -/
abbrev SChan := Fin 13

end Sys2Proof
end

