-- ==== Sys2Proof/Config.lean ====
section
/-! DEFINITION. The fixed configuration of one instance of the block (00_scope.md R12), and the free values: the
constants the spec leaves OPEN, which have no body, so that no proof can know them. -/

namespace Sys2Proof

/-- One answer of a peer to one call of its port (R17, R112): whether a push is accepted (`ok`, or `Full`), the unit
a pop yields (`some v`, or `none`), and the request flag the peer sets for its own channel during the call, if it
sets it. -/
structure PeerReply (α : Type) where
  accepts : Bool
  unit    : Option α
  request : Option Bool
  deriving DecidableEq, Repr, Inhabited

/-- `DRQ_RESET_P` (R12, R42, R461): OPEN, "It must not assume it is 0 or 1". A free value (log 9). -/
opaque Config.freeDrqP : PChan → Bool

/-- `DRQ_RESET_S` (R12, R53, R461): OPEN. A free value (log 9). -/
opaque Config.freeDrqS : SChan → Bool

/-- The answer of engine P's peer to a call that its script does not cover, at a value of the call counter: what a
peer does is no part of the core (R61). A free value (log 7). -/
opaque Config.peerReplyP : PChan → Nat → PeerReply Quad

/-- The same for engine S's peers. A free value (log 7). -/
opaque Config.peerReplyS : SChan → Nat → PeerReply Word

/-- The parameters of R12 that the model takes as arguments, as plain data of the state. No step changes them. -/
structure Config where
  /-- `DRQ_RESET_P`: the request flag of each engine P channel after reset. -/
  drqResetP    : Vector Bool 10
  /-- `DRQ_RESET_S`: the request flag of each engine S channel after reset. -/
  drqResetS    : Vector Bool 13
  /-- `TTE_FWD`: whether the peer of an engine P channel accepts inline tag payload forwarding. -/
  tteFwd       : Vector Bool 10
  /-- `TAG_FROM_PEER_P`: the engine P channels whose tags come from the peer (R253). -/
  tagFromPeerP : Vector Bool 10
  /-- `TAG_FROM_PEER_S`: the engine S channels whose tags come from the peer (R271). -/
  tagFromPeerS : Vector Bool 13
  /-- `PEER_PRESENT_S`: the engine S channels that have a modelled peer (R342). -/
  peerPresentS : Vector Bool 13
  deriving DecidableEq, Repr

/-- The defaults of R12 (decisions D16, D18, D29; log 10); the two OPEN parameters are the free values (log 9). -/
def Config.default : Config where
  drqResetP := #v[Config.freeDrqP 0, Config.freeDrqP 1, Config.freeDrqP 2, Config.freeDrqP 3, Config.freeDrqP 4,
    Config.freeDrqP 5, Config.freeDrqP 6, Config.freeDrqP 7, Config.freeDrqP 8, Config.freeDrqP 9]
  drqResetS := #v[Config.freeDrqS 0, Config.freeDrqS 1, Config.freeDrqS 2, Config.freeDrqS 3, Config.freeDrqS 4,
    Config.freeDrqS 5, Config.freeDrqS 6, Config.freeDrqS 7, Config.freeDrqS 8, Config.freeDrqS 9,
    Config.freeDrqS 10, Config.freeDrqS 11, Config.freeDrqS 12]
  tteFwd := #v[true, true, false, false, false, false, true, false, false, false]
  tagFromPeerP := #v[false, false, false, false, false, true, false, false, true, false]
  tagFromPeerS := #v[false, false, false, false, false, false, false, false, false, false, true, false, false]
  peerPresentS := #v[false, false, true, false, false, false, false, false, false, true, true, true, true]

end Sys2Proof
end

