-- ==== Sys2Proof/Syntax.lean ====
section
/-! DEFINITION. The syntax of the model: engines, registers, tag fields, the operations the core accepts (R180), and
`Instr`, one constructor per row of spec/opcode_table.json. -/

namespace Sys2Proof

/-- The two engines (R1). -/
inductive Engine where
  | P
  | S
  deriving DecidableEq, Repr

/-- The width of a software access (R190: 8, 16 or 32 bits). -/
inductive AccessWidth where
  | w8
  | w16
  | w32
  deriving DecidableEq, Repr

/-- The widths that BCR takes at byte offset 2 (R111, R190). -/
inductive LaneWidth where
  | w8
  | w16
  deriving DecidableEq, Repr

/-- A lane width as an access width. -/
def LaneWidth.toAccess : LaneWidth → AccessWidth
  | .w8 => .w8
  | .w16 => .w16

/-- Whether a software access reads or writes (R190). -/
inductive AccessKind where
  | read
  | write
  deriving DecidableEq, Repr

/-- The registers of an engine P channel (R107). -/
inductive PReg where
  | chcr
  | madr
  | qwc
  | tadr
  | asr0
  | asr1
  | sadr
  deriving DecidableEq, Repr

/-- The engine-wide registers of engine P (R107). -/
inductive PWideReg where
  | dCtrl
  | dStat
  | dPcr
  deriving DecidableEq, Repr

/-- The registers of an engine S channel (R108). -/
inductive SReg where
  | madr
  | bcr
  | chcr
  | tadr
  deriving DecidableEq, Repr

/-- The engine-wide registers of engine S (R108). -/
inductive SWideReg where
  | dpcr
  | dicr
  | dpcr2
  | dicr2
  | dmacen
  | dmacinten
  deriving DecidableEq, Repr

/-- A register of the core, by engine, channel and name (R107, R108). -/
inductive RegRef where
  | pCh (c : PChan) (r : PReg)
  | pWide (r : PWideReg)
  | sCh (c : SChan) (r : SReg)
  | sWide (r : SWideReg)
  deriving DecidableEq, Repr

/-- The tag family of an engine P channel (R253). -/
inductive TagFamily where
  | source
  | destination
  deriving DecidableEq, Repr

/-- The fields of an engine P tag but its ID (R157): the count, bits 25:16, PCE, IRQ ("tagBit31"), ADDR and the
payload. -/
structure PTag where
  qwc      : BitVec 16
  reserved : BitVec 10
  pce      : BitVec 2
  irq      : Bool
  addr     : Word
  payload  : Payload
  deriving DecidableEq, Repr

/-- The fields of an engine S tag (R160): ADDR, the ignored bits 29:24, IRQ and ERT of word 0, COUNT of word 1. -/
structure STag where
  addr    : AddrS
  ignored : BitVec 6
  irq     : Bool
  ert     : Bool
  count   : Word
  deriving DecidableEq, Repr

/-- The operations the core accepts from outside (R180): register accesses by software, and the port operations. -/
inductive Operation where
  | read (addr : Word) (width : AccessWidth)
  | write (addr : Word) (width : AccessWidth) (v : Word)
  | serviceP
  | serviceS
  | setRequestP (c : PChan) (ready : Bool)
  | setRequestS (c : SChan) (ready : Bool)
  | resetP
  | resetS
  | cpcond
  deriving DecidableEq, Repr

/-- The encoded form of an instruction (R181): an operation, or a tag word with the channel it is read for and, on
engine P, the family that the channel selects. Operations have no binary length. -/
inductive Encoding where
  | op (o : Operation)
  | pTag (fam : TagFamily) (c : PChan) (t : Quad)
  | sTag (c : SChan) (w0 w1 : Word)
  deriving DecidableEq, Repr

/-- The instructions of the core: one constructor per row of spec/opcode_table.json (R180, R181).
A register access is one of a width the row lists (R111, R190): only the rows of BCR at offsets 0 and 2 take more than one
and carry it. A write carries its value; a tag carries its channel and its fields. (The constructors that carry
something stand first.) -/
inductive Instr where
  | wrPChcr_0 (v : Word)
  | wrPMadr_0 (v : Word)
  | wrPQwc_0 (v : Word)
  | wrPTadr_0 (v : Word)
  | wrPAsr0_0 (v : Word)
  | wrPAsr1_0 (v : Word)
  | wrPSadr_0 (v : Word)
  | wrPChcr_1 (v : Word)
  | wrPMadr_1 (v : Word)
  | wrPQwc_1 (v : Word)
  | wrPTadr_1 (v : Word)
  | wrPAsr0_1 (v : Word)
  | wrPAsr1_1 (v : Word)
  | wrPSadr_1 (v : Word)
  | wrPChcr_2 (v : Word)
  | wrPMadr_2 (v : Word)
  | wrPQwc_2 (v : Word)
  | wrPTadr_2 (v : Word)
  | wrPAsr0_2 (v : Word)
  | wrPAsr1_2 (v : Word)
  | wrPSadr_2 (v : Word)
  | wrPChcr_3 (v : Word)
  | wrPMadr_3 (v : Word)
  | wrPQwc_3 (v : Word)
  | wrPTadr_3 (v : Word)
  | wrPAsr0_3 (v : Word)
  | wrPAsr1_3 (v : Word)
  | wrPSadr_3 (v : Word)
  | wrPChcr_4 (v : Word)
  | wrPMadr_4 (v : Word)
  | wrPQwc_4 (v : Word)
  | wrPTadr_4 (v : Word)
  | wrPAsr0_4 (v : Word)
  | wrPAsr1_4 (v : Word)
  | wrPSadr_4 (v : Word)
  | wrPChcr_5 (v : Word)
  | wrPMadr_5 (v : Word)
  | wrPQwc_5 (v : Word)
  | wrPTadr_5 (v : Word)
  | wrPAsr0_5 (v : Word)
  | wrPAsr1_5 (v : Word)
  | wrPSadr_5 (v : Word)
  | wrPChcr_6 (v : Word)
  | wrPMadr_6 (v : Word)
  | wrPQwc_6 (v : Word)
  | wrPTadr_6 (v : Word)
  | wrPAsr0_6 (v : Word)
  | wrPAsr1_6 (v : Word)
  | wrPSadr_6 (v : Word)
  | wrPChcr_7 (v : Word)
  | wrPMadr_7 (v : Word)
  | wrPQwc_7 (v : Word)
  | wrPTadr_7 (v : Word)
  | wrPAsr0_7 (v : Word)
  | wrPAsr1_7 (v : Word)
  | wrPSadr_7 (v : Word)
  | wrPChcr_8 (v : Word)
  | wrPMadr_8 (v : Word)
  | wrPQwc_8 (v : Word)
  | wrPTadr_8 (v : Word)
  | wrPAsr0_8 (v : Word)
  | wrPAsr1_8 (v : Word)
  | wrPSadr_8 (v : Word)
  | wrPChcr_9 (v : Word)
  | wrPMadr_9 (v : Word)
  | wrPQwc_9 (v : Word)
  | wrPTadr_9 (v : Word)
  | wrPAsr0_9 (v : Word)
  | wrPAsr1_9 (v : Word)
  | wrPSadr_9 (v : Word)
  | wrPDCtrl (v : Word)
  | wrPDStat (v : Word)
  | wrPDPcr (v : Word)
  | wrSMadr_0 (v : Word)
  | rdSBcr_0_0 (w : AccessWidth)
  | rdSBcr_0_2 (w : LaneWidth)
  | wrSBcr_0_0 (w : AccessWidth) (v : Word)
  | wrSBcr_0_1 (v : Byte)
  | wrSBcr_0_2 (w : LaneWidth) (v : BitVec 16)
  | wrSBcr_0_3 (v : Byte)
  | wrSChcr_0 (v : Word)
  | wrSTadr_0 (v : Word)
  | wrSMadr_1 (v : Word)
  | rdSBcr_1_0 (w : AccessWidth)
  | rdSBcr_1_2 (w : LaneWidth)
  | wrSBcr_1_0 (w : AccessWidth) (v : Word)
  | wrSBcr_1_1 (v : Byte)
  | wrSBcr_1_2 (w : LaneWidth) (v : BitVec 16)
  | wrSBcr_1_3 (v : Byte)
  | wrSChcr_1 (v : Word)
  | wrSTadr_1 (v : Word)
  | wrSMadr_2 (v : Word)
  | rdSBcr_2_0 (w : AccessWidth)
  | rdSBcr_2_2 (w : LaneWidth)
  | wrSBcr_2_0 (w : AccessWidth) (v : Word)
  | wrSBcr_2_1 (v : Byte)
  | wrSBcr_2_2 (w : LaneWidth) (v : BitVec 16)
  | wrSBcr_2_3 (v : Byte)
  | wrSChcr_2 (v : Word)
  | wrSTadr_2 (v : Word)
  | wrSMadr_3 (v : Word)
  | rdSBcr_3_0 (w : AccessWidth)
  | rdSBcr_3_2 (w : LaneWidth)
  | wrSBcr_3_0 (w : AccessWidth) (v : Word)
  | wrSBcr_3_1 (v : Byte)
  | wrSBcr_3_2 (w : LaneWidth) (v : BitVec 16)
  | wrSBcr_3_3 (v : Byte)
  | wrSChcr_3 (v : Word)
  | wrSTadr_3 (v : Word)
  | wrSMadr_4 (v : Word)
  | rdSBcr_4_0 (w : AccessWidth)
  | rdSBcr_4_2 (w : LaneWidth)
  | wrSBcr_4_0 (w : AccessWidth) (v : Word)
  | wrSBcr_4_1 (v : Byte)
  | wrSBcr_4_2 (w : LaneWidth) (v : BitVec 16)
  | wrSBcr_4_3 (v : Byte)
  | wrSChcr_4 (v : Word)
  | wrSTadr_4 (v : Word)
  | wrSMadr_5 (v : Word)
  | rdSBcr_5_0 (w : AccessWidth)
  | rdSBcr_5_2 (w : LaneWidth)
  | wrSBcr_5_0 (w : AccessWidth) (v : Word)
  | wrSBcr_5_1 (v : Byte)
  | wrSBcr_5_2 (w : LaneWidth) (v : BitVec 16)
  | wrSBcr_5_3 (v : Byte)
  | wrSChcr_5 (v : Word)
  | wrSTadr_5 (v : Word)
  | wrSMadr_6 (v : Word)
  | rdSBcr_6_0 (w : AccessWidth)
  | rdSBcr_6_2 (w : LaneWidth)
  | wrSBcr_6_0 (w : AccessWidth) (v : Word)
  | wrSBcr_6_1 (v : Byte)
  | wrSBcr_6_2 (w : LaneWidth) (v : BitVec 16)
  | wrSBcr_6_3 (v : Byte)
  | wrSChcr_6 (v : Word)
  | wrSTadr_6 (v : Word)
  | wrSMadr_7 (v : Word)
  | rdSBcr_7_0 (w : AccessWidth)
  | rdSBcr_7_2 (w : LaneWidth)
  | wrSBcr_7_0 (w : AccessWidth) (v : Word)
  | wrSBcr_7_1 (v : Byte)
  | wrSBcr_7_2 (w : LaneWidth) (v : BitVec 16)
  | wrSBcr_7_3 (v : Byte)
  | wrSChcr_7 (v : Word)
  | wrSTadr_7 (v : Word)
  | wrSMadr_8 (v : Word)
  | rdSBcr_8_0 (w : AccessWidth)
  | rdSBcr_8_2 (w : LaneWidth)
  | wrSBcr_8_0 (w : AccessWidth) (v : Word)
  | wrSBcr_8_1 (v : Byte)
  | wrSBcr_8_2 (w : LaneWidth) (v : BitVec 16)
  | wrSBcr_8_3 (v : Byte)
  | wrSChcr_8 (v : Word)
  | wrSTadr_8 (v : Word)
  | wrSMadr_9 (v : Word)
  | rdSBcr_9_0 (w : AccessWidth)
  | rdSBcr_9_2 (w : LaneWidth)
  | wrSBcr_9_0 (w : AccessWidth) (v : Word)
  | wrSBcr_9_1 (v : Byte)
  | wrSBcr_9_2 (w : LaneWidth) (v : BitVec 16)
  | wrSBcr_9_3 (v : Byte)
  | wrSChcr_9 (v : Word)
  | wrSTadr_9 (v : Word)
  | wrSMadr_10 (v : Word)
  | rdSBcr_10_0 (w : AccessWidth)
  | rdSBcr_10_2 (w : LaneWidth)
  | wrSBcr_10_0 (w : AccessWidth) (v : Word)
  | wrSBcr_10_1 (v : Byte)
  | wrSBcr_10_2 (w : LaneWidth) (v : BitVec 16)
  | wrSBcr_10_3 (v : Byte)
  | wrSChcr_10 (v : Word)
  | wrSTadr_10 (v : Word)
  | wrSMadr_11 (v : Word)
  | rdSBcr_11_0 (w : AccessWidth)
  | rdSBcr_11_2 (w : LaneWidth)
  | wrSBcr_11_0 (w : AccessWidth) (v : Word)
  | wrSBcr_11_1 (v : Byte)
  | wrSBcr_11_2 (w : LaneWidth) (v : BitVec 16)
  | wrSBcr_11_3 (v : Byte)
  | wrSChcr_11 (v : Word)
  | wrSTadr_11 (v : Word)
  | wrSMadr_12 (v : Word)
  | rdSBcr_12_0 (w : AccessWidth)
  | rdSBcr_12_2 (w : LaneWidth)
  | wrSBcr_12_0 (w : AccessWidth) (v : Word)
  | wrSBcr_12_1 (v : Byte)
  | wrSBcr_12_2 (w : LaneWidth) (v : BitVec 16)
  | wrSBcr_12_3 (v : Byte)
  | wrSChcr_12 (v : Word)
  | wrSTadr_12 (v : Word)
  | wrSDpcr (v : Word)
  | wrSDicr (v : Word)
  | wrSDpcr2 (v : Word)
  | wrSDicr2 (v : Word)
  | wrSDmacen (v : Word)
  | wrSDmacinten (v : Word)
  | pSrcTagRefe (c : PChan) (t : PTag)
  | pSrcTagCnt (c : PChan) (t : PTag)
  | pSrcTagNext (c : PChan) (t : PTag)
  | pSrcTagRef (c : PChan) (t : PTag)
  | pSrcTagRefs (c : PChan) (t : PTag)
  | pSrcTagCall (c : PChan) (t : PTag)
  | pSrcTagRet (c : PChan) (t : PTag)
  | pSrcTagEnd (c : PChan) (t : PTag)
  | pDstTagCnts (c : PChan) (t : PTag)
  | pDstTagCnt (c : PChan) (t : PTag)
  | pDstTagId2 (c : PChan) (t : PTag)
  | pDstTagId3 (c : PChan) (t : PTag)
  | pDstTagId4 (c : PChan) (t : PTag)
  | pDstTagId5 (c : PChan) (t : PTag)
  | pDstTagId6 (c : PChan) (t : PTag)
  | pDstTagEnd (c : PChan) (t : PTag)
  | sTag (c : SChan) (t : STag)
  | setRequestP (c : PChan) (ready : Bool)
  | setRequestS (c : SChan) (ready : Bool)
  | rdPChcr_0
  | rdPMadr_0
  | rdPQwc_0
  | rdPTadr_0
  | rdPAsr0_0
  | rdPAsr1_0
  | rdPSadr_0
  | rdPChcr_1
  | rdPMadr_1
  | rdPQwc_1
  | rdPTadr_1
  | rdPAsr0_1
  | rdPAsr1_1
  | rdPSadr_1
  | rdPChcr_2
  | rdPMadr_2
  | rdPQwc_2
  | rdPTadr_2
  | rdPAsr0_2
  | rdPAsr1_2
  | rdPSadr_2
  | rdPChcr_3
  | rdPMadr_3
  | rdPQwc_3
  | rdPTadr_3
  | rdPAsr0_3
  | rdPAsr1_3
  | rdPSadr_3
  | rdPChcr_4
  | rdPMadr_4
  | rdPQwc_4
  | rdPTadr_4
  | rdPAsr0_4
  | rdPAsr1_4
  | rdPSadr_4
  | rdPChcr_5
  | rdPMadr_5
  | rdPQwc_5
  | rdPTadr_5
  | rdPAsr0_5
  | rdPAsr1_5
  | rdPSadr_5
  | rdPChcr_6
  | rdPMadr_6
  | rdPQwc_6
  | rdPTadr_6
  | rdPAsr0_6
  | rdPAsr1_6
  | rdPSadr_6
  | rdPChcr_7
  | rdPMadr_7
  | rdPQwc_7
  | rdPTadr_7
  | rdPAsr0_7
  | rdPAsr1_7
  | rdPSadr_7
  | rdPChcr_8
  | rdPMadr_8
  | rdPQwc_8
  | rdPTadr_8
  | rdPAsr0_8
  | rdPAsr1_8
  | rdPSadr_8
  | rdPChcr_9
  | rdPMadr_9
  | rdPQwc_9
  | rdPTadr_9
  | rdPAsr0_9
  | rdPAsr1_9
  | rdPSadr_9
  | rdPDCtrl
  | rdPDStat
  | rdPDPcr
  | rdSMadr_0
  | rdSBcr_0_1
  | rdSBcr_0_3
  | rdSChcr_0
  | rdSTadr_0
  | rdSMadr_1
  | rdSBcr_1_1
  | rdSBcr_1_3
  | rdSChcr_1
  | rdSTadr_1
  | rdSMadr_2
  | rdSBcr_2_1
  | rdSBcr_2_3
  | rdSChcr_2
  | rdSTadr_2
  | rdSMadr_3
  | rdSBcr_3_1
  | rdSBcr_3_3
  | rdSChcr_3
  | rdSTadr_3
  | rdSMadr_4
  | rdSBcr_4_1
  | rdSBcr_4_3
  | rdSChcr_4
  | rdSTadr_4
  | rdSMadr_5
  | rdSBcr_5_1
  | rdSBcr_5_3
  | rdSChcr_5
  | rdSTadr_5
  | rdSMadr_6
  | rdSBcr_6_1
  | rdSBcr_6_3
  | rdSChcr_6
  | rdSTadr_6
  | rdSMadr_7
  | rdSBcr_7_1
  | rdSBcr_7_3
  | rdSChcr_7
  | rdSTadr_7
  | rdSMadr_8
  | rdSBcr_8_1
  | rdSBcr_8_3
  | rdSChcr_8
  | rdSTadr_8
  | rdSMadr_9
  | rdSBcr_9_1
  | rdSBcr_9_3
  | rdSChcr_9
  | rdSTadr_9
  | rdSMadr_10
  | rdSBcr_10_1
  | rdSBcr_10_3
  | rdSChcr_10
  | rdSTadr_10
  | rdSMadr_11
  | rdSBcr_11_1
  | rdSBcr_11_3
  | rdSChcr_11
  | rdSTadr_11
  | rdSMadr_12
  | rdSBcr_12_1
  | rdSBcr_12_3
  | rdSChcr_12
  | rdSTadr_12
  | rdSDpcr
  | rdSDicr
  | rdSDpcr2
  | rdSDicr2
  | rdSDmacen
  | rdSDmacinten
  | serviceP
  | serviceS
  | resetP
  | resetS
  | cpcond
  deriving DecidableEq, Repr

end Sys2Proof
end

