-- ==== Sys2Proof/Decode.lean ====
section
/-! DEFINITION. The decoder: the register map (R107, R108), the decoding of a register access from its address alone
(R109, R180, R190), of an engine P tag (R158, R159) and of an engine S tag (R160), each total, rejecting by name; then
the encoder, and the host's way in, `decodeTableWord`. -/

namespace Sys2Proof

/-! ## The register map -/

/-- The channels of engine P in dispatch order (R290). -/
def PChan.all : List PChan := [0, 1, 2, 3, 4, 5, 6, 7, 8, 9]

/-- The channels of engine S in dispatch order (R340). -/
def SChan.all : List SChan := [0, 1, 2, 3, 4, 5, 6, 7, 8, 9, 10, 11, 12]

/-- The base address of an engine P channel (R107). -/
def pBase (c : PChan) : Nat :=
  match c with
  | 0 => 0x10008000
  | 1 => 0x10009000
  | 2 => 0x1000A000
  | 3 => 0x1000B000
  | 4 => 0x1000B400
  | 5 => 0x1000C000
  | 6 => 0x1000C400
  | 7 => 0x1000C800
  | 8 => 0x1000D000
  | 9 => 0x1000D400

/-- The offset of a register within an engine P channel (R107). -/
def pOffset : PReg → Nat
  | .chcr => 0x00
  | .madr => 0x10
  | .qwc => 0x20
  | .tadr => 0x30
  | .asr0 => 0x40
  | .asr1 => 0x50
  | .sadr => 0x80

/-- The address of an engine-wide register of engine P (R107). -/
def pWideAddress : PWideReg → Nat
  | .dCtrl => 0x1000E000
  | .dStat => 0x1000E010
  | .dPcr => 0x1000E020

/-- The base address of an engine S channel (R108). -/
def sBase (c : SChan) : Nat :=
  if c.val ≤ 6 then 0x1F801080 + 0x10 * c.val else 0x1F801500 + 0x10 * (c.val - 7)

/-- The offset of a register within an engine S channel (R108). -/
def sOffset : SReg → Nat
  | .madr => 0x0
  | .bcr => 0x4
  | .chcr => 0x8
  | .tadr => 0xC

/-- The address of an engine-wide register of engine S (R108). -/
def sWideAddress : SWideReg → Nat
  | .dpcr => 0x1F8010F0
  | .dicr => 0x1F8010F4
  | .dpcr2 => 0x1F801570
  | .dicr2 => 0x1F801574
  | .dmacen => 0x1F801578
  | .dmacinten => 0x1F80157C

/-- The byte address of a register (R107, R108). -/
def RegRef.address : RegRef → Nat
  | .pCh c r => pBase c + pOffset r
  | .pWide r => pWideAddress r
  | .sCh c r => sBase c + sOffset r
  | .sWide r => sWideAddress r

/-- The engine a register belongs to. -/
def RegRef.engine : RegRef → Engine
  | .pCh _ _ => .P
  | .pWide _ => .P
  | .sCh _ _ => .S
  | .sWide _ => .S

/-- The channel a register belongs to, if it is a channel's. -/
def RegRef.channel : RegRef → Option Nat
  | .pCh c _ => some c.val
  | .pWide _ => none
  | .sCh c _ => some c.val
  | .sWide _ => none

/-- Every register of engine P (R107). -/
def pRegs : List RegRef :=
  (PChan.all.flatMap fun c => [PReg.chcr, .madr, .qwc, .tadr, .asr0, .asr1, .sadr].map (RegRef.pCh c)) ++
    [.pWide .dCtrl, .pWide .dStat, .pWide .dPcr]

/-- Every register of engine S (R108). -/
def sRegs : List RegRef :=
  (SChan.all.flatMap fun c => [SReg.madr, .bcr, .chcr, .tadr].map (RegRef.sCh c)) ++
    [.sWide .dpcr, .sWide .dicr, .sWide .dpcr2, .sWide .dicr2, .sWide .dmacen, .sWide .dmacinten]

/-- The engine whose window holds an address (R107: 0x10008000 to 0x1000EFFF; R108: 0x1F801080 to 0x1F8010FF and
0x1F801500 to 0x1F80157F); none outside both windows (R109). -/
def windowOf (a : Word) : Option Engine :=
  if 0x10008000 ≤ a.toNat ∧ a.toNat ≤ 0x1000EFFF then some .P
  else if 0x1F801080 ≤ a.toNat ∧ a.toNat ≤ 0x1F8010FF then some .S
  else if 0x1F801500 ≤ a.toNat ∧ a.toNat ≤ 0x1F80157F then some .S
  else none

/-- The word address of an access, `address & ~0x3` (R109, R190). -/
def wordAddress (a : Word) : Nat := a.toNat - a.toNat % 4

/-- `lookup` of R190: the register of an engine at a word address (R107, R108), if there is one. -/
def lookupReg (e : Engine) (w : Nat) : Option RegRef :=
  match e with
  | .P => pRegs.find? fun r => r.address == w
  | .S => sRegs.find? fun r => r.address == w

/-! ## The rows of a register, by channel -/

/-- The rows `RD P.CHCR[c]`, one per channel (R194). -/
def Instr.rdPChcr (c : PChan) : Instr :=
  match c with
  | 0 => .rdPChcr_0
  | 1 => .rdPChcr_1
  | 2 => .rdPChcr_2
  | 3 => .rdPChcr_3
  | 4 => .rdPChcr_4
  | 5 => .rdPChcr_5
  | 6 => .rdPChcr_6
  | 7 => .rdPChcr_7
  | 8 => .rdPChcr_8
  | 9 => .rdPChcr_9

/-- The rows `WR P.CHCR[c]`, one per channel (R195). -/
def Instr.wrPChcr (c : PChan) (v : Word) : Instr :=
  match c with
  | 0 => .wrPChcr_0 v
  | 1 => .wrPChcr_1 v
  | 2 => .wrPChcr_2 v
  | 3 => .wrPChcr_3 v
  | 4 => .wrPChcr_4 v
  | 5 => .wrPChcr_5 v
  | 6 => .wrPChcr_6 v
  | 7 => .wrPChcr_7 v
  | 8 => .wrPChcr_8 v
  | 9 => .wrPChcr_9 v

/-- The rows `RD P.MADR[c]`, one per channel (R192). -/
def Instr.rdPMadr (c : PChan) : Instr :=
  match c with
  | 0 => .rdPMadr_0
  | 1 => .rdPMadr_1
  | 2 => .rdPMadr_2
  | 3 => .rdPMadr_3
  | 4 => .rdPMadr_4
  | 5 => .rdPMadr_5
  | 6 => .rdPMadr_6
  | 7 => .rdPMadr_7
  | 8 => .rdPMadr_8
  | 9 => .rdPMadr_9

/-- The rows `WR P.MADR[c]`, one per channel (R193). -/
def Instr.wrPMadr (c : PChan) (v : Word) : Instr :=
  match c with
  | 0 => .wrPMadr_0 v
  | 1 => .wrPMadr_1 v
  | 2 => .wrPMadr_2 v
  | 3 => .wrPMadr_3 v
  | 4 => .wrPMadr_4 v
  | 5 => .wrPMadr_5 v
  | 6 => .wrPMadr_6 v
  | 7 => .wrPMadr_7 v
  | 8 => .wrPMadr_8 v
  | 9 => .wrPMadr_9 v

/-- The rows `RD P.QWC[c]`, one per channel (R196). -/
def Instr.rdPQwc (c : PChan) : Instr :=
  match c with
  | 0 => .rdPQwc_0
  | 1 => .rdPQwc_1
  | 2 => .rdPQwc_2
  | 3 => .rdPQwc_3
  | 4 => .rdPQwc_4
  | 5 => .rdPQwc_5
  | 6 => .rdPQwc_6
  | 7 => .rdPQwc_7
  | 8 => .rdPQwc_8
  | 9 => .rdPQwc_9

/-- The rows `WR P.QWC[c]`, one per channel (R197). -/
def Instr.wrPQwc (c : PChan) (v : Word) : Instr :=
  match c with
  | 0 => .wrPQwc_0 v
  | 1 => .wrPQwc_1 v
  | 2 => .wrPQwc_2 v
  | 3 => .wrPQwc_3 v
  | 4 => .wrPQwc_4 v
  | 5 => .wrPQwc_5 v
  | 6 => .wrPQwc_6 v
  | 7 => .wrPQwc_7 v
  | 8 => .wrPQwc_8 v
  | 9 => .wrPQwc_9 v

/-- The rows `RD P.TADR[c]`, one per channel (R198). -/
def Instr.rdPTadr (c : PChan) : Instr :=
  match c with
  | 0 => .rdPTadr_0
  | 1 => .rdPTadr_1
  | 2 => .rdPTadr_2
  | 3 => .rdPTadr_3
  | 4 => .rdPTadr_4
  | 5 => .rdPTadr_5
  | 6 => .rdPTadr_6
  | 7 => .rdPTadr_7
  | 8 => .rdPTadr_8
  | 9 => .rdPTadr_9

/-- The rows `WR P.TADR[c]`, one per channel (R199). -/
def Instr.wrPTadr (c : PChan) (v : Word) : Instr :=
  match c with
  | 0 => .wrPTadr_0 v
  | 1 => .wrPTadr_1 v
  | 2 => .wrPTadr_2 v
  | 3 => .wrPTadr_3 v
  | 4 => .wrPTadr_4 v
  | 5 => .wrPTadr_5 v
  | 6 => .wrPTadr_6 v
  | 7 => .wrPTadr_7 v
  | 8 => .wrPTadr_8 v
  | 9 => .wrPTadr_9 v

/-- The rows `RD P.ASR0[c]`, one per channel (R200). -/
def Instr.rdPAsr0 (c : PChan) : Instr :=
  match c with
  | 0 => .rdPAsr0_0
  | 1 => .rdPAsr0_1
  | 2 => .rdPAsr0_2
  | 3 => .rdPAsr0_3
  | 4 => .rdPAsr0_4
  | 5 => .rdPAsr0_5
  | 6 => .rdPAsr0_6
  | 7 => .rdPAsr0_7
  | 8 => .rdPAsr0_8
  | 9 => .rdPAsr0_9

/-- The rows `WR P.ASR0[c]`, one per channel (R201). -/
def Instr.wrPAsr0 (c : PChan) (v : Word) : Instr :=
  match c with
  | 0 => .wrPAsr0_0 v
  | 1 => .wrPAsr0_1 v
  | 2 => .wrPAsr0_2 v
  | 3 => .wrPAsr0_3 v
  | 4 => .wrPAsr0_4 v
  | 5 => .wrPAsr0_5 v
  | 6 => .wrPAsr0_6 v
  | 7 => .wrPAsr0_7 v
  | 8 => .wrPAsr0_8 v
  | 9 => .wrPAsr0_9 v

/-- The rows `RD P.ASR1[c]`, one per channel (R202). -/
def Instr.rdPAsr1 (c : PChan) : Instr :=
  match c with
  | 0 => .rdPAsr1_0
  | 1 => .rdPAsr1_1
  | 2 => .rdPAsr1_2
  | 3 => .rdPAsr1_3
  | 4 => .rdPAsr1_4
  | 5 => .rdPAsr1_5
  | 6 => .rdPAsr1_6
  | 7 => .rdPAsr1_7
  | 8 => .rdPAsr1_8
  | 9 => .rdPAsr1_9

/-- The rows `WR P.ASR1[c]`, one per channel (R203). -/
def Instr.wrPAsr1 (c : PChan) (v : Word) : Instr :=
  match c with
  | 0 => .wrPAsr1_0 v
  | 1 => .wrPAsr1_1 v
  | 2 => .wrPAsr1_2 v
  | 3 => .wrPAsr1_3 v
  | 4 => .wrPAsr1_4 v
  | 5 => .wrPAsr1_5 v
  | 6 => .wrPAsr1_6 v
  | 7 => .wrPAsr1_7 v
  | 8 => .wrPAsr1_8 v
  | 9 => .wrPAsr1_9 v

/-- The rows `RD P.SADR[c]`, one per channel (R204). -/
def Instr.rdPSadr (c : PChan) : Instr :=
  match c with
  | 0 => .rdPSadr_0
  | 1 => .rdPSadr_1
  | 2 => .rdPSadr_2
  | 3 => .rdPSadr_3
  | 4 => .rdPSadr_4
  | 5 => .rdPSadr_5
  | 6 => .rdPSadr_6
  | 7 => .rdPSadr_7
  | 8 => .rdPSadr_8
  | 9 => .rdPSadr_9

/-- The rows `WR P.SADR[c]`, one per channel (R205). -/
def Instr.wrPSadr (c : PChan) (v : Word) : Instr :=
  match c with
  | 0 => .wrPSadr_0 v
  | 1 => .wrPSadr_1 v
  | 2 => .wrPSadr_2 v
  | 3 => .wrPSadr_3 v
  | 4 => .wrPSadr_4 v
  | 5 => .wrPSadr_5 v
  | 6 => .wrPSadr_6 v
  | 7 => .wrPSadr_7 v
  | 8 => .wrPSadr_8 v
  | 9 => .wrPSadr_9 v

/-- The rows `RD S.MADR[c]`, one per channel (R220). -/
def Instr.rdSMadr (c : SChan) : Instr :=
  match c with
  | 0 => .rdSMadr_0
  | 1 => .rdSMadr_1
  | 2 => .rdSMadr_2
  | 3 => .rdSMadr_3
  | 4 => .rdSMadr_4
  | 5 => .rdSMadr_5
  | 6 => .rdSMadr_6
  | 7 => .rdSMadr_7
  | 8 => .rdSMadr_8
  | 9 => .rdSMadr_9
  | 10 => .rdSMadr_10
  | 11 => .rdSMadr_11
  | 12 => .rdSMadr_12

/-- The rows `WR S.MADR[c]`, one per channel (R221). -/
def Instr.wrSMadr (c : SChan) (v : Word) : Instr :=
  match c with
  | 0 => .wrSMadr_0 v
  | 1 => .wrSMadr_1 v
  | 2 => .wrSMadr_2 v
  | 3 => .wrSMadr_3 v
  | 4 => .wrSMadr_4 v
  | 5 => .wrSMadr_5 v
  | 6 => .wrSMadr_6 v
  | 7 => .wrSMadr_7 v
  | 8 => .wrSMadr_8 v
  | 9 => .wrSMadr_9 v
  | 10 => .wrSMadr_10 v
  | 11 => .wrSMadr_11 v
  | 12 => .wrSMadr_12 v

/-- The rows `RD S.BCR[c]+0`, one per channel (R222). -/
def Instr.rdSBcrAt0 (c : SChan) (w : AccessWidth) : Instr :=
  match c with
  | 0 => .rdSBcr_0_0 w
  | 1 => .rdSBcr_1_0 w
  | 2 => .rdSBcr_2_0 w
  | 3 => .rdSBcr_3_0 w
  | 4 => .rdSBcr_4_0 w
  | 5 => .rdSBcr_5_0 w
  | 6 => .rdSBcr_6_0 w
  | 7 => .rdSBcr_7_0 w
  | 8 => .rdSBcr_8_0 w
  | 9 => .rdSBcr_9_0 w
  | 10 => .rdSBcr_10_0 w
  | 11 => .rdSBcr_11_0 w
  | 12 => .rdSBcr_12_0 w

/-- The rows `RD S.BCR[c]+1`, one per channel (R222). -/
def Instr.rdSBcrAt1 (c : SChan) : Instr :=
  match c with
  | 0 => .rdSBcr_0_1
  | 1 => .rdSBcr_1_1
  | 2 => .rdSBcr_2_1
  | 3 => .rdSBcr_3_1
  | 4 => .rdSBcr_4_1
  | 5 => .rdSBcr_5_1
  | 6 => .rdSBcr_6_1
  | 7 => .rdSBcr_7_1
  | 8 => .rdSBcr_8_1
  | 9 => .rdSBcr_9_1
  | 10 => .rdSBcr_10_1
  | 11 => .rdSBcr_11_1
  | 12 => .rdSBcr_12_1

/-- The rows `RD S.BCR[c]+2`, one per channel (R222). -/
def Instr.rdSBcrAt2 (c : SChan) (w : LaneWidth) : Instr :=
  match c with
  | 0 => .rdSBcr_0_2 w
  | 1 => .rdSBcr_1_2 w
  | 2 => .rdSBcr_2_2 w
  | 3 => .rdSBcr_3_2 w
  | 4 => .rdSBcr_4_2 w
  | 5 => .rdSBcr_5_2 w
  | 6 => .rdSBcr_6_2 w
  | 7 => .rdSBcr_7_2 w
  | 8 => .rdSBcr_8_2 w
  | 9 => .rdSBcr_9_2 w
  | 10 => .rdSBcr_10_2 w
  | 11 => .rdSBcr_11_2 w
  | 12 => .rdSBcr_12_2 w

/-- The rows `RD S.BCR[c]+3`, one per channel (R222). -/
def Instr.rdSBcrAt3 (c : SChan) : Instr :=
  match c with
  | 0 => .rdSBcr_0_3
  | 1 => .rdSBcr_1_3
  | 2 => .rdSBcr_2_3
  | 3 => .rdSBcr_3_3
  | 4 => .rdSBcr_4_3
  | 5 => .rdSBcr_5_3
  | 6 => .rdSBcr_6_3
  | 7 => .rdSBcr_7_3
  | 8 => .rdSBcr_8_3
  | 9 => .rdSBcr_9_3
  | 10 => .rdSBcr_10_3
  | 11 => .rdSBcr_11_3
  | 12 => .rdSBcr_12_3

/-- The rows `WR S.BCR[c]+0`, one per channel (R223). -/
def Instr.wrSBcrAt0 (c : SChan) (w : AccessWidth) (v : Word) : Instr :=
  match c with
  | 0 => .wrSBcr_0_0 w v
  | 1 => .wrSBcr_1_0 w v
  | 2 => .wrSBcr_2_0 w v
  | 3 => .wrSBcr_3_0 w v
  | 4 => .wrSBcr_4_0 w v
  | 5 => .wrSBcr_5_0 w v
  | 6 => .wrSBcr_6_0 w v
  | 7 => .wrSBcr_7_0 w v
  | 8 => .wrSBcr_8_0 w v
  | 9 => .wrSBcr_9_0 w v
  | 10 => .wrSBcr_10_0 w v
  | 11 => .wrSBcr_11_0 w v
  | 12 => .wrSBcr_12_0 w v

/-- The rows `WR S.BCR[c]+1`, one per channel (R223). -/
def Instr.wrSBcrAt1 (c : SChan) (v : Byte) : Instr :=
  match c with
  | 0 => .wrSBcr_0_1 v
  | 1 => .wrSBcr_1_1 v
  | 2 => .wrSBcr_2_1 v
  | 3 => .wrSBcr_3_1 v
  | 4 => .wrSBcr_4_1 v
  | 5 => .wrSBcr_5_1 v
  | 6 => .wrSBcr_6_1 v
  | 7 => .wrSBcr_7_1 v
  | 8 => .wrSBcr_8_1 v
  | 9 => .wrSBcr_9_1 v
  | 10 => .wrSBcr_10_1 v
  | 11 => .wrSBcr_11_1 v
  | 12 => .wrSBcr_12_1 v

/-- The rows `WR S.BCR[c]+2`, one per channel (R223). -/
def Instr.wrSBcrAt2 (c : SChan) (w : LaneWidth) (v : BitVec 16) : Instr :=
  match c with
  | 0 => .wrSBcr_0_2 w v
  | 1 => .wrSBcr_1_2 w v
  | 2 => .wrSBcr_2_2 w v
  | 3 => .wrSBcr_3_2 w v
  | 4 => .wrSBcr_4_2 w v
  | 5 => .wrSBcr_5_2 w v
  | 6 => .wrSBcr_6_2 w v
  | 7 => .wrSBcr_7_2 w v
  | 8 => .wrSBcr_8_2 w v
  | 9 => .wrSBcr_9_2 w v
  | 10 => .wrSBcr_10_2 w v
  | 11 => .wrSBcr_11_2 w v
  | 12 => .wrSBcr_12_2 w v

/-- The rows `WR S.BCR[c]+3`, one per channel (R223). -/
def Instr.wrSBcrAt3 (c : SChan) (v : Byte) : Instr :=
  match c with
  | 0 => .wrSBcr_0_3 v
  | 1 => .wrSBcr_1_3 v
  | 2 => .wrSBcr_2_3 v
  | 3 => .wrSBcr_3_3 v
  | 4 => .wrSBcr_4_3 v
  | 5 => .wrSBcr_5_3 v
  | 6 => .wrSBcr_6_3 v
  | 7 => .wrSBcr_7_3 v
  | 8 => .wrSBcr_8_3 v
  | 9 => .wrSBcr_9_3 v
  | 10 => .wrSBcr_10_3 v
  | 11 => .wrSBcr_11_3 v
  | 12 => .wrSBcr_12_3 v

/-- The rows `RD S.CHCR[c]`, one per channel (R224). -/
def Instr.rdSChcr (c : SChan) : Instr :=
  match c with
  | 0 => .rdSChcr_0
  | 1 => .rdSChcr_1
  | 2 => .rdSChcr_2
  | 3 => .rdSChcr_3
  | 4 => .rdSChcr_4
  | 5 => .rdSChcr_5
  | 6 => .rdSChcr_6
  | 7 => .rdSChcr_7
  | 8 => .rdSChcr_8
  | 9 => .rdSChcr_9
  | 10 => .rdSChcr_10
  | 11 => .rdSChcr_11
  | 12 => .rdSChcr_12

/-- The rows `WR S.CHCR[c]`, one per channel (R225). -/
def Instr.wrSChcr (c : SChan) (v : Word) : Instr :=
  match c with
  | 0 => .wrSChcr_0 v
  | 1 => .wrSChcr_1 v
  | 2 => .wrSChcr_2 v
  | 3 => .wrSChcr_3 v
  | 4 => .wrSChcr_4 v
  | 5 => .wrSChcr_5 v
  | 6 => .wrSChcr_6 v
  | 7 => .wrSChcr_7 v
  | 8 => .wrSChcr_8 v
  | 9 => .wrSChcr_9 v
  | 10 => .wrSChcr_10 v
  | 11 => .wrSChcr_11 v
  | 12 => .wrSChcr_12 v

/-- The rows `RD S.TADR[c]`, one per channel (R226). -/
def Instr.rdSTadr (c : SChan) : Instr :=
  match c with
  | 0 => .rdSTadr_0
  | 1 => .rdSTadr_1
  | 2 => .rdSTadr_2
  | 3 => .rdSTadr_3
  | 4 => .rdSTadr_4
  | 5 => .rdSTadr_5
  | 6 => .rdSTadr_6
  | 7 => .rdSTadr_7
  | 8 => .rdSTadr_8
  | 9 => .rdSTadr_9
  | 10 => .rdSTadr_10
  | 11 => .rdSTadr_11
  | 12 => .rdSTadr_12

/-- The rows `WR S.TADR[c]`, one per channel (R227). -/
def Instr.wrSTadr (c : SChan) (v : Word) : Instr :=
  match c with
  | 0 => .wrSTadr_0 v
  | 1 => .wrSTadr_1 v
  | 2 => .wrSTadr_2 v
  | 3 => .wrSTadr_3 v
  | 4 => .wrSTadr_4 v
  | 5 => .wrSTadr_5 v
  | 6 => .wrSTadr_6 v
  | 7 => .wrSTadr_7 v
  | 8 => .wrSTadr_8 v
  | 9 => .wrSTadr_9 v
  | 10 => .wrSTadr_10 v
  | 11 => .wrSTadr_11 v
  | 12 => .wrSTadr_12 v

/-- The read row of a register at a byte offset and a width: `allowed` of R190. BCR takes (32, 0), (16, 0), (16, 2) and
width 8 at each offset (R222); every other register takes (32, 0) only. None where the row takes no such access. -/
def readRow (r : RegRef) (k : Nat) (w : AccessWidth) : Option Instr :=
  match r, k, w with
  | .sCh c .bcr, 0, w => some (.rdSBcrAt0 c w)
  | .sCh c .bcr, 1, .w8 => some (.rdSBcrAt1 c)
  | .sCh c .bcr, 2, .w8 => some (.rdSBcrAt2 c .w8)
  | .sCh c .bcr, 2, .w16 => some (.rdSBcrAt2 c .w16)
  | .sCh c .bcr, 3, .w8 => some (.rdSBcrAt3 c)
  | .pCh c .chcr, 0, .w32 => some (.rdPChcr c)
  | .pCh c .madr, 0, .w32 => some (.rdPMadr c)
  | .pCh c .qwc, 0, .w32 => some (.rdPQwc c)
  | .pCh c .tadr, 0, .w32 => some (.rdPTadr c)
  | .pCh c .asr0, 0, .w32 => some (.rdPAsr0 c)
  | .pCh c .asr1, 0, .w32 => some (.rdPAsr1 c)
  | .pCh c .sadr, 0, .w32 => some (.rdPSadr c)
  | .pWide .dCtrl, 0, .w32 => some .rdPDCtrl
  | .pWide .dStat, 0, .w32 => some .rdPDStat
  | .pWide .dPcr, 0, .w32 => some .rdPDPcr
  | .sCh c .madr, 0, .w32 => some (.rdSMadr c)
  | .sCh c .chcr, 0, .w32 => some (.rdSChcr c)
  | .sCh c .tadr, 0, .w32 => some (.rdSTadr c)
  | .sWide .dpcr, 0, .w32 => some .rdSDpcr
  | .sWide .dicr, 0, .w32 => some .rdSDicr
  | .sWide .dpcr2, 0, .w32 => some .rdSDpcr2
  | .sWide .dicr2, 0, .w32 => some .rdSDicr2
  | .sWide .dmacen, 0, .w32 => some .rdSDmacen
  | .sWide .dmacinten, 0, .w32 => some .rdSDmacinten
  | _, _, _ => none

/-- The value of a write of a width: its bits above the width are no part of the access (R190; log 23). -/
def accessValue (w : AccessWidth) (v : Word) : Word :=
  match w with
  | .w8 => (v.setWidth 8).setWidth 32
  | .w16 => (v.setWidth 16).setWidth 32
  | .w32 => v

/-- The write row of a register at a byte offset and a width (R190, R223). -/
def writeRow (r : RegRef) (k : Nat) (w : AccessWidth) (v : Word) : Option Instr :=
  match r, k, w with
  | .sCh c .bcr, 0, w => some (.wrSBcrAt0 c w (accessValue w v))
  | .sCh c .bcr, 1, .w8 => some (.wrSBcrAt1 c (v.setWidth 8))
  | .sCh c .bcr, 2, .w8 => some (.wrSBcrAt2 c .w8 ((v.setWidth 8).setWidth 16))
  | .sCh c .bcr, 2, .w16 => some (.wrSBcrAt2 c .w16 (v.setWidth 16))
  | .sCh c .bcr, 3, .w8 => some (.wrSBcrAt3 c (v.setWidth 8))
  | .pCh c .chcr, 0, .w32 => some (.wrPChcr c v)
  | .pCh c .madr, 0, .w32 => some (.wrPMadr c v)
  | .pCh c .qwc, 0, .w32 => some (.wrPQwc c v)
  | .pCh c .tadr, 0, .w32 => some (.wrPTadr c v)
  | .pCh c .asr0, 0, .w32 => some (.wrPAsr0 c v)
  | .pCh c .asr1, 0, .w32 => some (.wrPAsr1 c v)
  | .pCh c .sadr, 0, .w32 => some (.wrPSadr c v)
  | .pWide .dCtrl, 0, .w32 => some (.wrPDCtrl v)
  | .pWide .dStat, 0, .w32 => some (.wrPDStat v)
  | .pWide .dPcr, 0, .w32 => some (.wrPDPcr v)
  | .sCh c .madr, 0, .w32 => some (.wrSMadr c v)
  | .sCh c .chcr, 0, .w32 => some (.wrSChcr c v)
  | .sCh c .tadr, 0, .w32 => some (.wrSTadr c v)
  | .sWide .dpcr, 0, .w32 => some (.wrSDpcr v)
  | .sWide .dicr, 0, .w32 => some (.wrSDicr v)
  | .sWide .dpcr2, 0, .w32 => some (.wrSDpcr2 v)
  | .sWide .dicr2, 0, .w32 => some (.wrSDicr2 v)
  | .sWide .dmacen, 0, .w32 => some (.wrSDmacen v)
  | .sWide .dmacinten, 0, .w32 => some (.wrSDmacinten v)
  | _, _, _ => none

/-! ## Decoding an operation -/

/-- Why an operation is no instruction of the table. -/
inductive DecodeError where
  /-- An address outside both windows: "never reaches the core" (R109). -/
  | outsideWindows (addr : Word)
  /-- A word of engine `e`'s window that is not a register: Fatal(UNMODELLED_REGISTER) on that engine (R109). -/
  | unmodelledRegister (e : Engine) (addr : Word) (width : AccessWidth) (kind : AccessKind)
  /-- A width or byte offset the register does not take: Fatal(UNSUPPORTED_WIDTH) on its engine (R111, R190). -/
  | unsupportedWidth (r : RegRef) (addr : Word) (width : AccessWidth) (kind : AccessKind)
  deriving DecidableEq, Repr

/-- The address part of REG_ACCESS (R190): the register whose word holds the address, and the byte offset in it. -/
def decodeAddress (a : Word) (width : AccessWidth) (kind : AccessKind) : Except DecodeError (RegRef × Nat) :=
  match windowOf a with
  | none => .error (.outsideWindows a)
  | some e =>
    match lookupReg e (wordAddress a) with
    | none => .error (.unmodelledRegister e a width kind)
    | some r => .ok (r, a.toNat % 4)

/-- The instruction an operation is, or why it is none (R180, R190). -/
def decode (o : Operation) : Except DecodeError Instr :=
  match o with
  | .read a w =>
    match decodeAddress a w .read with
    | .error e => .error e
    | .ok (r, k) =>
      match readRow r k w with
      | some i => .ok i
      | none => .error (.unsupportedWidth r a w .read)
  | .write a w v =>
    match decodeAddress a w .write with
    | .error e => .error e
    | .ok (r, k) =>
      match writeRow r k w v with
      | some i => .ok i
      | none => .error (.unsupportedWidth r a w .write)
  | .serviceP => .ok .serviceP
  | .serviceS => .ok .serviceS
  | .setRequestP c ready => .ok (.setRequestP c ready)
  | .setRequestS c ready => .ok (.setRequestS c ready)
  | .resetP => .ok .resetP
  | .resetS => .ok .resetS
  | .cpcond => .ok .cpcond

/-! ## Decoding a tag -/

/-- The 3-bit type code of an engine P tag, bits 30:28 (R157, R161). -/
def tagId (t : Quad) : BitVec 3 := t.extractLsb' 28 3

/-- The fields of an engine P tag (R157, R161). -/
def unpackPTag (t : Quad) : PTag where
  qwc := t.extractLsb' 0 16
  reserved := t.extractLsb' 16 10
  pce := t.extractLsb' 26 2
  irq := t.getLsbD 31
  addr := t.extractLsb' 32 32
  payload := t.extractLsb' 64 64

/-- The fields of an engine S tag's two words (R160, R161). -/
def unpackSTag (w0 w1 : Word) : STag where
  addr := w0.extractLsb' 0 24
  ignored := w0.extractLsb' 24 6
  irq := w0.getLsbD 30
  ert := w0.getLsbD 31
  count := w1

/-- The instruction an engine P tag is, by its family and ID (R158, R159). Every ID has a row: those that are no
variant are rows whose meaning is the fatal error. -/
def decodePTag (fam : TagFamily) (c : PChan) (t : Quad) : Instr :=
  let f := unpackPTag t
  match fam, (tagId t).toFin with
  | .source, 0 => .pSrcTagRefe c f
  | .source, 1 => .pSrcTagCnt c f
  | .source, 2 => .pSrcTagNext c f
  | .source, 3 => .pSrcTagRef c f
  | .source, 4 => .pSrcTagRefs c f
  | .source, 5 => .pSrcTagCall c f
  | .source, 6 => .pSrcTagRet c f
  | .source, 7 => .pSrcTagEnd c f
  | .destination, 0 => .pDstTagCnts c f
  | .destination, 1 => .pDstTagCnt c f
  | .destination, 2 => .pDstTagId2 c f
  | .destination, 3 => .pDstTagId3 c f
  | .destination, 4 => .pDstTagId4 c f
  | .destination, 5 => .pDstTagId5 c f
  | .destination, 6 => .pDstTagId6 c f
  | .destination, 7 => .pDstTagEnd c f

/-- The instruction an engine S tag is: one variant, no type code (R270). -/
def decodeSTag (c : SChan) (w0 w1 : Word) : Instr := .sTag c (unpackSTag w0 w1)

/-- The decoder over every encoded form. -/
def decodeEncoding : Encoding → Except DecodeError Instr
  | .op o => decode o
  | .pTag fam c t => .ok (decodePTag fam c t)
  | .sTag c w0 w1 => .ok (decodeSTag c w0 w1)

/-! ## The encoder -/

/-- An engine P tag from its ID and its other fields (R157, R184). -/
def packPTag (id : BitVec 3) (t : PTag) : Quad :=
  t.payload ++ t.addr ++ BitVec.ofBool t.irq ++ id ++ t.pce ++ t.reserved ++ t.qwc

/-- Word 0 of an engine S tag (R160, R184); word 1 is its count. -/
def packSTag0 (t : STag) : Word :=
  BitVec.ofBool t.ert ++ BitVec.ofBool t.irq ++ t.ignored ++ t.addr

/-- The encoding of an instruction (R180, R181): each register row's address is the `match` of spec/opcode_table.json, a
tag row's ID the one of R158 or R159. -/
def encode : Instr → Encoding
  | .rdPChcr_0 => .op (.read 0x10008000 .w32)
  | .wrPChcr_0 v => .op (.write 0x10008000 .w32 v)
  | .rdPMadr_0 => .op (.read 0x10008010 .w32)
  | .wrPMadr_0 v => .op (.write 0x10008010 .w32 v)
  | .rdPQwc_0 => .op (.read 0x10008020 .w32)
  | .wrPQwc_0 v => .op (.write 0x10008020 .w32 v)
  | .rdPTadr_0 => .op (.read 0x10008030 .w32)
  | .wrPTadr_0 v => .op (.write 0x10008030 .w32 v)
  | .rdPAsr0_0 => .op (.read 0x10008040 .w32)
  | .wrPAsr0_0 v => .op (.write 0x10008040 .w32 v)
  | .rdPAsr1_0 => .op (.read 0x10008050 .w32)
  | .wrPAsr1_0 v => .op (.write 0x10008050 .w32 v)
  | .rdPSadr_0 => .op (.read 0x10008080 .w32)
  | .wrPSadr_0 v => .op (.write 0x10008080 .w32 v)
  | .rdPChcr_1 => .op (.read 0x10009000 .w32)
  | .wrPChcr_1 v => .op (.write 0x10009000 .w32 v)
  | .rdPMadr_1 => .op (.read 0x10009010 .w32)
  | .wrPMadr_1 v => .op (.write 0x10009010 .w32 v)
  | .rdPQwc_1 => .op (.read 0x10009020 .w32)
  | .wrPQwc_1 v => .op (.write 0x10009020 .w32 v)
  | .rdPTadr_1 => .op (.read 0x10009030 .w32)
  | .wrPTadr_1 v => .op (.write 0x10009030 .w32 v)
  | .rdPAsr0_1 => .op (.read 0x10009040 .w32)
  | .wrPAsr0_1 v => .op (.write 0x10009040 .w32 v)
  | .rdPAsr1_1 => .op (.read 0x10009050 .w32)
  | .wrPAsr1_1 v => .op (.write 0x10009050 .w32 v)
  | .rdPSadr_1 => .op (.read 0x10009080 .w32)
  | .wrPSadr_1 v => .op (.write 0x10009080 .w32 v)
  | .rdPChcr_2 => .op (.read 0x1000A000 .w32)
  | .wrPChcr_2 v => .op (.write 0x1000A000 .w32 v)
  | .rdPMadr_2 => .op (.read 0x1000A010 .w32)
  | .wrPMadr_2 v => .op (.write 0x1000A010 .w32 v)
  | .rdPQwc_2 => .op (.read 0x1000A020 .w32)
  | .wrPQwc_2 v => .op (.write 0x1000A020 .w32 v)
  | .rdPTadr_2 => .op (.read 0x1000A030 .w32)
  | .wrPTadr_2 v => .op (.write 0x1000A030 .w32 v)
  | .rdPAsr0_2 => .op (.read 0x1000A040 .w32)
  | .wrPAsr0_2 v => .op (.write 0x1000A040 .w32 v)
  | .rdPAsr1_2 => .op (.read 0x1000A050 .w32)
  | .wrPAsr1_2 v => .op (.write 0x1000A050 .w32 v)
  | .rdPSadr_2 => .op (.read 0x1000A080 .w32)
  | .wrPSadr_2 v => .op (.write 0x1000A080 .w32 v)
  | .rdPChcr_3 => .op (.read 0x1000B000 .w32)
  | .wrPChcr_3 v => .op (.write 0x1000B000 .w32 v)
  | .rdPMadr_3 => .op (.read 0x1000B010 .w32)
  | .wrPMadr_3 v => .op (.write 0x1000B010 .w32 v)
  | .rdPQwc_3 => .op (.read 0x1000B020 .w32)
  | .wrPQwc_3 v => .op (.write 0x1000B020 .w32 v)
  | .rdPTadr_3 => .op (.read 0x1000B030 .w32)
  | .wrPTadr_3 v => .op (.write 0x1000B030 .w32 v)
  | .rdPAsr0_3 => .op (.read 0x1000B040 .w32)
  | .wrPAsr0_3 v => .op (.write 0x1000B040 .w32 v)
  | .rdPAsr1_3 => .op (.read 0x1000B050 .w32)
  | .wrPAsr1_3 v => .op (.write 0x1000B050 .w32 v)
  | .rdPSadr_3 => .op (.read 0x1000B080 .w32)
  | .wrPSadr_3 v => .op (.write 0x1000B080 .w32 v)
  | .rdPChcr_4 => .op (.read 0x1000B400 .w32)
  | .wrPChcr_4 v => .op (.write 0x1000B400 .w32 v)
  | .rdPMadr_4 => .op (.read 0x1000B410 .w32)
  | .wrPMadr_4 v => .op (.write 0x1000B410 .w32 v)
  | .rdPQwc_4 => .op (.read 0x1000B420 .w32)
  | .wrPQwc_4 v => .op (.write 0x1000B420 .w32 v)
  | .rdPTadr_4 => .op (.read 0x1000B430 .w32)
  | .wrPTadr_4 v => .op (.write 0x1000B430 .w32 v)
  | .rdPAsr0_4 => .op (.read 0x1000B440 .w32)
  | .wrPAsr0_4 v => .op (.write 0x1000B440 .w32 v)
  | .rdPAsr1_4 => .op (.read 0x1000B450 .w32)
  | .wrPAsr1_4 v => .op (.write 0x1000B450 .w32 v)
  | .rdPSadr_4 => .op (.read 0x1000B480 .w32)
  | .wrPSadr_4 v => .op (.write 0x1000B480 .w32 v)
  | .rdPChcr_5 => .op (.read 0x1000C000 .w32)
  | .wrPChcr_5 v => .op (.write 0x1000C000 .w32 v)
  | .rdPMadr_5 => .op (.read 0x1000C010 .w32)
  | .wrPMadr_5 v => .op (.write 0x1000C010 .w32 v)
  | .rdPQwc_5 => .op (.read 0x1000C020 .w32)
  | .wrPQwc_5 v => .op (.write 0x1000C020 .w32 v)
  | .rdPTadr_5 => .op (.read 0x1000C030 .w32)
  | .wrPTadr_5 v => .op (.write 0x1000C030 .w32 v)
  | .rdPAsr0_5 => .op (.read 0x1000C040 .w32)
  | .wrPAsr0_5 v => .op (.write 0x1000C040 .w32 v)
  | .rdPAsr1_5 => .op (.read 0x1000C050 .w32)
  | .wrPAsr1_5 v => .op (.write 0x1000C050 .w32 v)
  | .rdPSadr_5 => .op (.read 0x1000C080 .w32)
  | .wrPSadr_5 v => .op (.write 0x1000C080 .w32 v)
  | .rdPChcr_6 => .op (.read 0x1000C400 .w32)
  | .wrPChcr_6 v => .op (.write 0x1000C400 .w32 v)
  | .rdPMadr_6 => .op (.read 0x1000C410 .w32)
  | .wrPMadr_6 v => .op (.write 0x1000C410 .w32 v)
  | .rdPQwc_6 => .op (.read 0x1000C420 .w32)
  | .wrPQwc_6 v => .op (.write 0x1000C420 .w32 v)
  | .rdPTadr_6 => .op (.read 0x1000C430 .w32)
  | .wrPTadr_6 v => .op (.write 0x1000C430 .w32 v)
  | .rdPAsr0_6 => .op (.read 0x1000C440 .w32)
  | .wrPAsr0_6 v => .op (.write 0x1000C440 .w32 v)
  | .rdPAsr1_6 => .op (.read 0x1000C450 .w32)
  | .wrPAsr1_6 v => .op (.write 0x1000C450 .w32 v)
  | .rdPSadr_6 => .op (.read 0x1000C480 .w32)
  | .wrPSadr_6 v => .op (.write 0x1000C480 .w32 v)
  | .rdPChcr_7 => .op (.read 0x1000C800 .w32)
  | .wrPChcr_7 v => .op (.write 0x1000C800 .w32 v)
  | .rdPMadr_7 => .op (.read 0x1000C810 .w32)
  | .wrPMadr_7 v => .op (.write 0x1000C810 .w32 v)
  | .rdPQwc_7 => .op (.read 0x1000C820 .w32)
  | .wrPQwc_7 v => .op (.write 0x1000C820 .w32 v)
  | .rdPTadr_7 => .op (.read 0x1000C830 .w32)
  | .wrPTadr_7 v => .op (.write 0x1000C830 .w32 v)
  | .rdPAsr0_7 => .op (.read 0x1000C840 .w32)
  | .wrPAsr0_7 v => .op (.write 0x1000C840 .w32 v)
  | .rdPAsr1_7 => .op (.read 0x1000C850 .w32)
  | .wrPAsr1_7 v => .op (.write 0x1000C850 .w32 v)
  | .rdPSadr_7 => .op (.read 0x1000C880 .w32)
  | .wrPSadr_7 v => .op (.write 0x1000C880 .w32 v)
  | .rdPChcr_8 => .op (.read 0x1000D000 .w32)
  | .wrPChcr_8 v => .op (.write 0x1000D000 .w32 v)
  | .rdPMadr_8 => .op (.read 0x1000D010 .w32)
  | .wrPMadr_8 v => .op (.write 0x1000D010 .w32 v)
  | .rdPQwc_8 => .op (.read 0x1000D020 .w32)
  | .wrPQwc_8 v => .op (.write 0x1000D020 .w32 v)
  | .rdPTadr_8 => .op (.read 0x1000D030 .w32)
  | .wrPTadr_8 v => .op (.write 0x1000D030 .w32 v)
  | .rdPAsr0_8 => .op (.read 0x1000D040 .w32)
  | .wrPAsr0_8 v => .op (.write 0x1000D040 .w32 v)
  | .rdPAsr1_8 => .op (.read 0x1000D050 .w32)
  | .wrPAsr1_8 v => .op (.write 0x1000D050 .w32 v)
  | .rdPSadr_8 => .op (.read 0x1000D080 .w32)
  | .wrPSadr_8 v => .op (.write 0x1000D080 .w32 v)
  | .rdPChcr_9 => .op (.read 0x1000D400 .w32)
  | .wrPChcr_9 v => .op (.write 0x1000D400 .w32 v)
  | .rdPMadr_9 => .op (.read 0x1000D410 .w32)
  | .wrPMadr_9 v => .op (.write 0x1000D410 .w32 v)
  | .rdPQwc_9 => .op (.read 0x1000D420 .w32)
  | .wrPQwc_9 v => .op (.write 0x1000D420 .w32 v)
  | .rdPTadr_9 => .op (.read 0x1000D430 .w32)
  | .wrPTadr_9 v => .op (.write 0x1000D430 .w32 v)
  | .rdPAsr0_9 => .op (.read 0x1000D440 .w32)
  | .wrPAsr0_9 v => .op (.write 0x1000D440 .w32 v)
  | .rdPAsr1_9 => .op (.read 0x1000D450 .w32)
  | .wrPAsr1_9 v => .op (.write 0x1000D450 .w32 v)
  | .rdPSadr_9 => .op (.read 0x1000D480 .w32)
  | .wrPSadr_9 v => .op (.write 0x1000D480 .w32 v)
  | .rdPDCtrl => .op (.read 0x1000E000 .w32)
  | .wrPDCtrl v => .op (.write 0x1000E000 .w32 v)
  | .rdPDStat => .op (.read 0x1000E010 .w32)
  | .wrPDStat v => .op (.write 0x1000E010 .w32 v)
  | .rdPDPcr => .op (.read 0x1000E020 .w32)
  | .wrPDPcr v => .op (.write 0x1000E020 .w32 v)
  | .rdSMadr_0 => .op (.read 0x1F801080 .w32)
  | .wrSMadr_0 v => .op (.write 0x1F801080 .w32 v)
  | .rdSBcr_0_0 w => .op (.read 0x1F801084 w)
  | .rdSBcr_0_1 => .op (.read 0x1F801085 .w8)
  | .rdSBcr_0_2 w => .op (.read 0x1F801086 w.toAccess)
  | .rdSBcr_0_3 => .op (.read 0x1F801087 .w8)
  | .wrSBcr_0_0 w v => .op (.write 0x1F801084 w v)
  | .wrSBcr_0_1 v => .op (.write 0x1F801085 .w8 (v.setWidth 32))
  | .wrSBcr_0_2 w v => .op (.write 0x1F801086 w.toAccess (v.setWidth 32))
  | .wrSBcr_0_3 v => .op (.write 0x1F801087 .w8 (v.setWidth 32))
  | .rdSChcr_0 => .op (.read 0x1F801088 .w32)
  | .wrSChcr_0 v => .op (.write 0x1F801088 .w32 v)
  | .rdSTadr_0 => .op (.read 0x1F80108C .w32)
  | .wrSTadr_0 v => .op (.write 0x1F80108C .w32 v)
  | .rdSMadr_1 => .op (.read 0x1F801090 .w32)
  | .wrSMadr_1 v => .op (.write 0x1F801090 .w32 v)
  | .rdSBcr_1_0 w => .op (.read 0x1F801094 w)
  | .rdSBcr_1_1 => .op (.read 0x1F801095 .w8)
  | .rdSBcr_1_2 w => .op (.read 0x1F801096 w.toAccess)
  | .rdSBcr_1_3 => .op (.read 0x1F801097 .w8)
  | .wrSBcr_1_0 w v => .op (.write 0x1F801094 w v)
  | .wrSBcr_1_1 v => .op (.write 0x1F801095 .w8 (v.setWidth 32))
  | .wrSBcr_1_2 w v => .op (.write 0x1F801096 w.toAccess (v.setWidth 32))
  | .wrSBcr_1_3 v => .op (.write 0x1F801097 .w8 (v.setWidth 32))
  | .rdSChcr_1 => .op (.read 0x1F801098 .w32)
  | .wrSChcr_1 v => .op (.write 0x1F801098 .w32 v)
  | .rdSTadr_1 => .op (.read 0x1F80109C .w32)
  | .wrSTadr_1 v => .op (.write 0x1F80109C .w32 v)
  | .rdSMadr_2 => .op (.read 0x1F8010A0 .w32)
  | .wrSMadr_2 v => .op (.write 0x1F8010A0 .w32 v)
  | .rdSBcr_2_0 w => .op (.read 0x1F8010A4 w)
  | .rdSBcr_2_1 => .op (.read 0x1F8010A5 .w8)
  | .rdSBcr_2_2 w => .op (.read 0x1F8010A6 w.toAccess)
  | .rdSBcr_2_3 => .op (.read 0x1F8010A7 .w8)
  | .wrSBcr_2_0 w v => .op (.write 0x1F8010A4 w v)
  | .wrSBcr_2_1 v => .op (.write 0x1F8010A5 .w8 (v.setWidth 32))
  | .wrSBcr_2_2 w v => .op (.write 0x1F8010A6 w.toAccess (v.setWidth 32))
  | .wrSBcr_2_3 v => .op (.write 0x1F8010A7 .w8 (v.setWidth 32))
  | .rdSChcr_2 => .op (.read 0x1F8010A8 .w32)
  | .wrSChcr_2 v => .op (.write 0x1F8010A8 .w32 v)
  | .rdSTadr_2 => .op (.read 0x1F8010AC .w32)
  | .wrSTadr_2 v => .op (.write 0x1F8010AC .w32 v)
  | .rdSMadr_3 => .op (.read 0x1F8010B0 .w32)
  | .wrSMadr_3 v => .op (.write 0x1F8010B0 .w32 v)
  | .rdSBcr_3_0 w => .op (.read 0x1F8010B4 w)
  | .rdSBcr_3_1 => .op (.read 0x1F8010B5 .w8)
  | .rdSBcr_3_2 w => .op (.read 0x1F8010B6 w.toAccess)
  | .rdSBcr_3_3 => .op (.read 0x1F8010B7 .w8)
  | .wrSBcr_3_0 w v => .op (.write 0x1F8010B4 w v)
  | .wrSBcr_3_1 v => .op (.write 0x1F8010B5 .w8 (v.setWidth 32))
  | .wrSBcr_3_2 w v => .op (.write 0x1F8010B6 w.toAccess (v.setWidth 32))
  | .wrSBcr_3_3 v => .op (.write 0x1F8010B7 .w8 (v.setWidth 32))
  | .rdSChcr_3 => .op (.read 0x1F8010B8 .w32)
  | .wrSChcr_3 v => .op (.write 0x1F8010B8 .w32 v)
  | .rdSTadr_3 => .op (.read 0x1F8010BC .w32)
  | .wrSTadr_3 v => .op (.write 0x1F8010BC .w32 v)
  | .rdSMadr_4 => .op (.read 0x1F8010C0 .w32)
  | .wrSMadr_4 v => .op (.write 0x1F8010C0 .w32 v)
  | .rdSBcr_4_0 w => .op (.read 0x1F8010C4 w)
  | .rdSBcr_4_1 => .op (.read 0x1F8010C5 .w8)
  | .rdSBcr_4_2 w => .op (.read 0x1F8010C6 w.toAccess)
  | .rdSBcr_4_3 => .op (.read 0x1F8010C7 .w8)
  | .wrSBcr_4_0 w v => .op (.write 0x1F8010C4 w v)
  | .wrSBcr_4_1 v => .op (.write 0x1F8010C5 .w8 (v.setWidth 32))
  | .wrSBcr_4_2 w v => .op (.write 0x1F8010C6 w.toAccess (v.setWidth 32))
  | .wrSBcr_4_3 v => .op (.write 0x1F8010C7 .w8 (v.setWidth 32))
  | .rdSChcr_4 => .op (.read 0x1F8010C8 .w32)
  | .wrSChcr_4 v => .op (.write 0x1F8010C8 .w32 v)
  | .rdSTadr_4 => .op (.read 0x1F8010CC .w32)
  | .wrSTadr_4 v => .op (.write 0x1F8010CC .w32 v)
  | .rdSMadr_5 => .op (.read 0x1F8010D0 .w32)
  | .wrSMadr_5 v => .op (.write 0x1F8010D0 .w32 v)
  | .rdSBcr_5_0 w => .op (.read 0x1F8010D4 w)
  | .rdSBcr_5_1 => .op (.read 0x1F8010D5 .w8)
  | .rdSBcr_5_2 w => .op (.read 0x1F8010D6 w.toAccess)
  | .rdSBcr_5_3 => .op (.read 0x1F8010D7 .w8)
  | .wrSBcr_5_0 w v => .op (.write 0x1F8010D4 w v)
  | .wrSBcr_5_1 v => .op (.write 0x1F8010D5 .w8 (v.setWidth 32))
  | .wrSBcr_5_2 w v => .op (.write 0x1F8010D6 w.toAccess (v.setWidth 32))
  | .wrSBcr_5_3 v => .op (.write 0x1F8010D7 .w8 (v.setWidth 32))
  | .rdSChcr_5 => .op (.read 0x1F8010D8 .w32)
  | .wrSChcr_5 v => .op (.write 0x1F8010D8 .w32 v)
  | .rdSTadr_5 => .op (.read 0x1F8010DC .w32)
  | .wrSTadr_5 v => .op (.write 0x1F8010DC .w32 v)
  | .rdSMadr_6 => .op (.read 0x1F8010E0 .w32)
  | .wrSMadr_6 v => .op (.write 0x1F8010E0 .w32 v)
  | .rdSBcr_6_0 w => .op (.read 0x1F8010E4 w)
  | .rdSBcr_6_1 => .op (.read 0x1F8010E5 .w8)
  | .rdSBcr_6_2 w => .op (.read 0x1F8010E6 w.toAccess)
  | .rdSBcr_6_3 => .op (.read 0x1F8010E7 .w8)
  | .wrSBcr_6_0 w v => .op (.write 0x1F8010E4 w v)
  | .wrSBcr_6_1 v => .op (.write 0x1F8010E5 .w8 (v.setWidth 32))
  | .wrSBcr_6_2 w v => .op (.write 0x1F8010E6 w.toAccess (v.setWidth 32))
  | .wrSBcr_6_3 v => .op (.write 0x1F8010E7 .w8 (v.setWidth 32))
  | .rdSChcr_6 => .op (.read 0x1F8010E8 .w32)
  | .wrSChcr_6 v => .op (.write 0x1F8010E8 .w32 v)
  | .rdSTadr_6 => .op (.read 0x1F8010EC .w32)
  | .wrSTadr_6 v => .op (.write 0x1F8010EC .w32 v)
  | .rdSMadr_7 => .op (.read 0x1F801500 .w32)
  | .wrSMadr_7 v => .op (.write 0x1F801500 .w32 v)
  | .rdSBcr_7_0 w => .op (.read 0x1F801504 w)
  | .rdSBcr_7_1 => .op (.read 0x1F801505 .w8)
  | .rdSBcr_7_2 w => .op (.read 0x1F801506 w.toAccess)
  | .rdSBcr_7_3 => .op (.read 0x1F801507 .w8)
  | .wrSBcr_7_0 w v => .op (.write 0x1F801504 w v)
  | .wrSBcr_7_1 v => .op (.write 0x1F801505 .w8 (v.setWidth 32))
  | .wrSBcr_7_2 w v => .op (.write 0x1F801506 w.toAccess (v.setWidth 32))
  | .wrSBcr_7_3 v => .op (.write 0x1F801507 .w8 (v.setWidth 32))
  | .rdSChcr_7 => .op (.read 0x1F801508 .w32)
  | .wrSChcr_7 v => .op (.write 0x1F801508 .w32 v)
  | .rdSTadr_7 => .op (.read 0x1F80150C .w32)
  | .wrSTadr_7 v => .op (.write 0x1F80150C .w32 v)
  | .rdSMadr_8 => .op (.read 0x1F801510 .w32)
  | .wrSMadr_8 v => .op (.write 0x1F801510 .w32 v)
  | .rdSBcr_8_0 w => .op (.read 0x1F801514 w)
  | .rdSBcr_8_1 => .op (.read 0x1F801515 .w8)
  | .rdSBcr_8_2 w => .op (.read 0x1F801516 w.toAccess)
  | .rdSBcr_8_3 => .op (.read 0x1F801517 .w8)
  | .wrSBcr_8_0 w v => .op (.write 0x1F801514 w v)
  | .wrSBcr_8_1 v => .op (.write 0x1F801515 .w8 (v.setWidth 32))
  | .wrSBcr_8_2 w v => .op (.write 0x1F801516 w.toAccess (v.setWidth 32))
  | .wrSBcr_8_3 v => .op (.write 0x1F801517 .w8 (v.setWidth 32))
  | .rdSChcr_8 => .op (.read 0x1F801518 .w32)
  | .wrSChcr_8 v => .op (.write 0x1F801518 .w32 v)
  | .rdSTadr_8 => .op (.read 0x1F80151C .w32)
  | .wrSTadr_8 v => .op (.write 0x1F80151C .w32 v)
  | .rdSMadr_9 => .op (.read 0x1F801520 .w32)
  | .wrSMadr_9 v => .op (.write 0x1F801520 .w32 v)
  | .rdSBcr_9_0 w => .op (.read 0x1F801524 w)
  | .rdSBcr_9_1 => .op (.read 0x1F801525 .w8)
  | .rdSBcr_9_2 w => .op (.read 0x1F801526 w.toAccess)
  | .rdSBcr_9_3 => .op (.read 0x1F801527 .w8)
  | .wrSBcr_9_0 w v => .op (.write 0x1F801524 w v)
  | .wrSBcr_9_1 v => .op (.write 0x1F801525 .w8 (v.setWidth 32))
  | .wrSBcr_9_2 w v => .op (.write 0x1F801526 w.toAccess (v.setWidth 32))
  | .wrSBcr_9_3 v => .op (.write 0x1F801527 .w8 (v.setWidth 32))
  | .rdSChcr_9 => .op (.read 0x1F801528 .w32)
  | .wrSChcr_9 v => .op (.write 0x1F801528 .w32 v)
  | .rdSTadr_9 => .op (.read 0x1F80152C .w32)
  | .wrSTadr_9 v => .op (.write 0x1F80152C .w32 v)
  | .rdSMadr_10 => .op (.read 0x1F801530 .w32)
  | .wrSMadr_10 v => .op (.write 0x1F801530 .w32 v)
  | .rdSBcr_10_0 w => .op (.read 0x1F801534 w)
  | .rdSBcr_10_1 => .op (.read 0x1F801535 .w8)
  | .rdSBcr_10_2 w => .op (.read 0x1F801536 w.toAccess)
  | .rdSBcr_10_3 => .op (.read 0x1F801537 .w8)
  | .wrSBcr_10_0 w v => .op (.write 0x1F801534 w v)
  | .wrSBcr_10_1 v => .op (.write 0x1F801535 .w8 (v.setWidth 32))
  | .wrSBcr_10_2 w v => .op (.write 0x1F801536 w.toAccess (v.setWidth 32))
  | .wrSBcr_10_3 v => .op (.write 0x1F801537 .w8 (v.setWidth 32))
  | .rdSChcr_10 => .op (.read 0x1F801538 .w32)
  | .wrSChcr_10 v => .op (.write 0x1F801538 .w32 v)
  | .rdSTadr_10 => .op (.read 0x1F80153C .w32)
  | .wrSTadr_10 v => .op (.write 0x1F80153C .w32 v)
  | .rdSMadr_11 => .op (.read 0x1F801540 .w32)
  | .wrSMadr_11 v => .op (.write 0x1F801540 .w32 v)
  | .rdSBcr_11_0 w => .op (.read 0x1F801544 w)
  | .rdSBcr_11_1 => .op (.read 0x1F801545 .w8)
  | .rdSBcr_11_2 w => .op (.read 0x1F801546 w.toAccess)
  | .rdSBcr_11_3 => .op (.read 0x1F801547 .w8)
  | .wrSBcr_11_0 w v => .op (.write 0x1F801544 w v)
  | .wrSBcr_11_1 v => .op (.write 0x1F801545 .w8 (v.setWidth 32))
  | .wrSBcr_11_2 w v => .op (.write 0x1F801546 w.toAccess (v.setWidth 32))
  | .wrSBcr_11_3 v => .op (.write 0x1F801547 .w8 (v.setWidth 32))
  | .rdSChcr_11 => .op (.read 0x1F801548 .w32)
  | .wrSChcr_11 v => .op (.write 0x1F801548 .w32 v)
  | .rdSTadr_11 => .op (.read 0x1F80154C .w32)
  | .wrSTadr_11 v => .op (.write 0x1F80154C .w32 v)
  | .rdSMadr_12 => .op (.read 0x1F801550 .w32)
  | .wrSMadr_12 v => .op (.write 0x1F801550 .w32 v)
  | .rdSBcr_12_0 w => .op (.read 0x1F801554 w)
  | .rdSBcr_12_1 => .op (.read 0x1F801555 .w8)
  | .rdSBcr_12_2 w => .op (.read 0x1F801556 w.toAccess)
  | .rdSBcr_12_3 => .op (.read 0x1F801557 .w8)
  | .wrSBcr_12_0 w v => .op (.write 0x1F801554 w v)
  | .wrSBcr_12_1 v => .op (.write 0x1F801555 .w8 (v.setWidth 32))
  | .wrSBcr_12_2 w v => .op (.write 0x1F801556 w.toAccess (v.setWidth 32))
  | .wrSBcr_12_3 v => .op (.write 0x1F801557 .w8 (v.setWidth 32))
  | .rdSChcr_12 => .op (.read 0x1F801558 .w32)
  | .wrSChcr_12 v => .op (.write 0x1F801558 .w32 v)
  | .rdSTadr_12 => .op (.read 0x1F80155C .w32)
  | .wrSTadr_12 v => .op (.write 0x1F80155C .w32 v)
  | .rdSDpcr => .op (.read 0x1F8010F0 .w32)
  | .wrSDpcr v => .op (.write 0x1F8010F0 .w32 v)
  | .rdSDicr => .op (.read 0x1F8010F4 .w32)
  | .wrSDicr v => .op (.write 0x1F8010F4 .w32 v)
  | .rdSDpcr2 => .op (.read 0x1F801570 .w32)
  | .wrSDpcr2 v => .op (.write 0x1F801570 .w32 v)
  | .rdSDicr2 => .op (.read 0x1F801574 .w32)
  | .wrSDicr2 v => .op (.write 0x1F801574 .w32 v)
  | .rdSDmacen => .op (.read 0x1F801578 .w32)
  | .wrSDmacen v => .op (.write 0x1F801578 .w32 v)
  | .rdSDmacinten => .op (.read 0x1F80157C .w32)
  | .wrSDmacinten v => .op (.write 0x1F80157C .w32 v)
  | .pSrcTagRefe c t => .pTag .source c (packPTag 0 t)
  | .pSrcTagCnt c t => .pTag .source c (packPTag 1 t)
  | .pSrcTagNext c t => .pTag .source c (packPTag 2 t)
  | .pSrcTagRef c t => .pTag .source c (packPTag 3 t)
  | .pSrcTagRefs c t => .pTag .source c (packPTag 4 t)
  | .pSrcTagCall c t => .pTag .source c (packPTag 5 t)
  | .pSrcTagRet c t => .pTag .source c (packPTag 6 t)
  | .pSrcTagEnd c t => .pTag .source c (packPTag 7 t)
  | .pDstTagCnts c t => .pTag .destination c (packPTag 0 t)
  | .pDstTagCnt c t => .pTag .destination c (packPTag 1 t)
  | .pDstTagId2 c t => .pTag .destination c (packPTag 2 t)
  | .pDstTagId3 c t => .pTag .destination c (packPTag 3 t)
  | .pDstTagId4 c t => .pTag .destination c (packPTag 4 t)
  | .pDstTagId5 c t => .pTag .destination c (packPTag 5 t)
  | .pDstTagId6 c t => .pTag .destination c (packPTag 6 t)
  | .pDstTagEnd c t => .pTag .destination c (packPTag 7 t)
  | .sTag c t => .sTag c (packSTag0 t) t.count
  | .serviceP => .op .serviceP
  | .serviceS => .op .serviceS
  | .setRequestP c ready => .op (.setRequestP c ready)
  | .setRequestS c ready => .op (.setRequestS c ready)
  | .resetP => .op .resetP
  | .resetS => .op .resetS
  | .cpcond => .op .cpcond

/-! ## The host's numbering of the opcode table -/

/-- The widest access that a byte offset of a register word can take (R111). -/
def widestAt (a : Word) : AccessWidth :=
  if a.toNat % 4 = 0 then .w32 else if a.toNat % 2 = 0 then .w16 else .w8

/-- The encoded form that a table word stands for (log 16). The table gives a register's read row and its write row the
same 32 bits, its address, and gives both tag families the same bits: the word alone says neither, so an address in a
window is taken as a read, any other 32- or 128-bit word as a source chain tag of channel 0, 64 bits, or no bits at all
(the mask of its row fixes none), as an engine S tag of channel 2, and 16 bits as a SET_REQUEST with ready = 0: of engine P
where the number is a channel of it, of engine S for 10 to 12. -/
def tableEncoding (nbits w : Nat) : Option Encoding :=
  if nbits = 16 then
    if h : w < 10 then some (.op (.setRequestP ⟨w, h⟩ false))
    else if h : w < 13 then some (.op (.setRequestS ⟨w, h⟩ false)) else none
  else if nbits = 32 then
    match windowOf (BitVec.ofNat 32 w) with
    | some _ => some (.op (.read (BitVec.ofNat 32 w) (widestAt (BitVec.ofNat 32 w))))
    | none => some (.pTag .source 0 (BitVec.ofNat 128 w))
  else if nbits = 0 ∨ nbits = 64 then some (.sTag 2 (BitVec.ofNat 32 w) (BitVec.ofNat 32 (w / 2 ^ 32)))
  else if nbits = 128 then some (.pTag .source 0 (BitVec.ofNat 128 w))
  else none

/-- The instruction the decoder reads from the bits of a table word (none where it refuses). -/
def decodeTableWord (nbits w : Nat) : Option Instr :=
  match tableEncoding nbits w with
  | none => none
  | some e =>
    match decodeEncoding e with
    | .ok i => some i
    | .error _ => none

end Sys2Proof
end

