-- ==== Sys2Proof/Machine/State.lean ====
section
/-! DEFINITION. The state of the machine: the two engines (10_state.md), the parameters R12 gives one instance, what
R61 calls parameters of the step relation (memories, scratchpad, peers, the host's order), and the model's own record
of calls and answers. Plain data, with the reset values of 10_state.md §7 and R460. -/

namespace Sys2Proof.Machine

/-! ## Fatal errors (60_exceptions.md §1) -/

/-- The fault codes (R401). -/
inductive FatalCode where
  | unmodelledRegister
  | unsupportedWidth
  | unmodelledMode
  | unmodelledTag
  | tteUnsupported
  | peerOverflow
  | peerUnderflow
  | invariant
  | unmodelledChannel
  deriving DecidableEq, Repr

/-- The number of a fault code (R401). -/
def FatalCode.number : FatalCode → Nat
  | .unmodelledRegister => 1
  | .unsupportedWidth => 2
  | .unmodelledMode => 3
  | .unmodelledTag => 4
  | .tteUnsupported => 5
  | .peerOverflow => 6
  | .peerUnderflow => 7
  | .invariant => 8
  | .unmodelledChannel => 9

/-- The operation names of a fault record (R400). -/
inductive FatalOp where
  | registerRead
  | registerWrite
  | service
  | transfer
  | tagRead
  | tagDecode
  | tagTransfer
  deriving DecidableEq, Repr

/-- The value of a fault record (R400: "the register value, the 64 low bits of the tag, or the unit that was refused";
R297 also gives a refused tag payload). -/
inductive FatalValue where
  | register (v : Word)
  | tag (v : BitVec 64)
  | payload (v : Payload)
  | quad (v : Quad)
  | word (v : Word)
  deriving DecidableEq, Repr

/-- A fault record (R400, R401): a field is present where the raising rule supplies it. `register` is the register that
UNSUPPORTED_WIDTH names (R111, R401). -/
structure FaultRecord where
  engine    : Engine
  code      : FatalCode
  channel   : Option Nat
  value     : Option FatalValue
  operation : FatalOp
  register  : Option RegRef
  address   : Option Word
  width     : Option AccessWidth
  deriving DecidableEq, Repr

/-! ## The engines -/

/-- One channel of engine P (R34 to R42). -/
structure PChannel where
  chcr       : Word
  madr       : Word
  qwc        : BitVec 16
  tadr       : Word
  asr0       : Word
  asr1       : Word
  sadr       : SprAddr
  hasTag     : Bool
  chainEnded : Bool
  drq        : Bool
  deriving DecidableEq, Repr

/-- Engine P (R34 to R47). -/
structure EngineP where
  ch     : Vector PChannel 10
  dCtrl  : Word
  cis    : BitVec 10
  cim    : BitVec 10
  dPcr   : Word
  master : Bool
  fault  : Option FaultRecord
  deriving DecidableEq, Repr

/-- One channel of engine S (R48 to R53). `tagWords` is the 0-or-1 count of R52. -/
structure SChannel where
  madr       : AddrS
  bcr        : Word
  chcr       : Word
  tadr       : AddrS
  hasTag     : Bool
  chainEnded : Bool
  active     : Bool
  remaining  : Word
  tagWords   : Bool
  tagBuf     : Word
  tagIrq     : Bool
  drq        : Bool
  deriving DecidableEq, Repr

/-- Engine S (R48 to R58). -/
structure EngineS where
  ch        : Vector SChannel 13
  dpcr      : Word
  dpcr2     : Word
  be        : Bool
  im1       : BitVec 7
  mie       : Bool
  ip1       : BitVec 7
  mif       : Bool
  tip       : BitVec 13
  im2       : BitVec 6
  ip2       : BitVec 6
  dmacen    : Word
  dmacinten : Word
  fault     : Option FaultRecord
  deriving DecidableEq, Repr

/-! ## The outside of the core -/

/-- A memory: (address, byte) pairs in the canonical form `Memory.wf` of Machine/Ops.lean. -/
abbrev Memory := List Host.Cell

/-- What the core does at its ports and outputs (R60, R100, R102, R112): bus and scratchpad accesses, peer calls with
their answers, and the `IntcRaise` events ("an output event recorded in the step's trace", R420). -/
inductive Event where
  | memReadP (a : Word)
  | memWriteP (a : Word) (v : Quad)
  | sprRead (a : SprAddr)
  | sprWrite (a : SprAddr) (v : Quad)
  | pushP (c : PChan) (v : Quad) (accepted : Bool)
  | popP (c : PChan) (v : Option Quad)
  | pushTagP (c : PChan) (v : Payload) (accepted : Bool)
  | memReadS (a : Word)
  | memWriteS (a : Word) (v : Word)
  | pushS (c : SChan) (v : Word) (accepted : Bool)
  | popS (c : SChan) (v : Option Word)
  | intcRaise (e : Engine)
  deriving DecidableEq, Repr

/-- What an operation gives back to its caller: a read's value (R190), IDLE, PROGRESS(c) or FAULT(record) (R290, R340,
R400), "no step" on a halted engine (R403), CPCOND (R424), or just that it was done. -/
inductive Response where
  | none
  | done
  | value (v : Word)
  | idle
  | progress (c : Nat)
  | fault (r : FaultRecord)
  | noStep
  | cpcond (b : Bool)
  deriving DecidableEq, Repr

/-- An entry of the host's order (R116): an operation on the core, or a write to memory or scratchpad by another agent
(the `MEM` lines of R184; R120, R482). -/
inductive Pending where
  | op (o : Operation)
  | memP (a : Word) (v : Quad)
  | memS (a : AddrS) (v : Word)
  | spr (a : SprAddr) (v : Quad)
  deriving DecidableEq, Repr

/-! ## The state -/

/-- The whole state. `engP` and `engS` are the core's (R31: independent); `cfg` holds the parameters of R12; the
memories, the scratchpad, the peers' scripts and the pending list are R61's parameters of the step relation; `peerCalls`,
`log` and `response` are the model's own (log 8, 12, 13). -/
structure State where
  engP      : EngineP
  engS      : EngineS
  cfg       : Config
  memP      : Memory
  memS      : Memory
  spr       : Memory
  peersP    : Vector (List (PeerReply Quad)) 10
  peersS    : Vector (List (PeerReply Word)) 13
  pending   : List Pending
  peerCalls : Nat
  log       : List Event
  response  : Response
  deriving DecidableEq, Repr

/-- Why the machine stops with a fault. -/
inductive Fault where
  /-- Raised by `rejectAccess` (Machine/Fetch.lean) for a register access whose address lies outside both windows: it
  "never reaches the core; the bus decides what it does" (R109). Safe: the core would be unchanged and what the bus does
  is not the core's (log 14). -/
  | outsideWindows (addr : Word)
  deriving DecidableEq, Repr

/-- Why an instruction is refused. -/
inductive Refusal where
  /-- An arm of `exec` without a meaning; no arm raises it, since every instruction has its meaning. Safe. -/
  | notModelled (mnemonic : String)
  deriving DecidableEq, Repr

/-- How a sub-step of a service ends (R18): it is done, or it raises a fatal error in a state whose core part is
discarded and whose outside part stands. -/
inductive SubStep where
  | done (s : State)
  | fatal (r : FaultRecord) (s : State)
  deriving DecidableEq, Repr

/-! ## Reading and writing parts of the state -/

/-- Channel c of engine P. -/
def State.pch (s : State) (c : PChan) : PChannel := s.engP.ch[c]

/-- Channel c of engine S. -/
def State.sch (s : State) (c : SChan) : SChannel := s.engS.ch[c]

def State.setEngP (s : State) (e : EngineP) : State := { s with engP := e }

def State.setEngS (s : State) (e : EngineS) : State := { s with engS := e }

def State.setPch (s : State) (c : PChan) (x : PChannel) : State :=
  { s with engP := { s.engP with ch := s.engP.ch.set c x } }

def State.setSch (s : State) (c : SChan) (x : SChannel) : State :=
  { s with engS := { s.engS with ch := s.engS.ch.set c x } }

def State.setMemP (s : State) (m : Memory) : State := { s with memP := m }

def State.setMemS (s : State) (m : Memory) : State := { s with memS := m }

def State.setSpr (s : State) (m : Memory) : State := { s with spr := m }

def State.setPending (s : State) (l : List Pending) : State := { s with pending := l }

/-- The state with an event added to its log, newest last. -/
def State.record (s : State) (e : Event) : State := { s with log := s.log ++ [e] }

/-- The state with an answer for the operation's caller. -/
def State.respond (s : State) (r : Response) : State := { s with response := r }

/-! ## Reset -/

/-- A channel of engine P after reset (R460), its request flag the parameter's. -/
def PChannel.reset (drq : Bool) : PChannel where
  chcr := 0
  madr := 0
  qwc := 0
  tadr := 0
  asr0 := 0
  asr1 := 0
  sadr := 0
  hasTag := false
  chainEnded := false
  drq := drq

/-- Engine P after RESET(P) (R460). -/
def EngineP.reset (cfg : Config) : EngineP where
  ch := #v[PChannel.reset cfg.drqResetP[0], PChannel.reset cfg.drqResetP[1], PChannel.reset cfg.drqResetP[2],
    PChannel.reset cfg.drqResetP[3], PChannel.reset cfg.drqResetP[4], PChannel.reset cfg.drqResetP[5],
    PChannel.reset cfg.drqResetP[6], PChannel.reset cfg.drqResetP[7], PChannel.reset cfg.drqResetP[8],
    PChannel.reset cfg.drqResetP[9]]
  dCtrl := 0
  cis := 0
  cim := 0
  dPcr := 0
  master := false
  fault := none

/-- A channel of engine S after reset (R460). -/
def SChannel.reset (drq : Bool) : SChannel where
  madr := 0
  bcr := 0
  chcr := 0
  tadr := 0
  hasTag := false
  chainEnded := false
  active := false
  remaining := 0
  tagWords := false
  tagBuf := 0
  tagIrq := false
  drq := drq

/-- Engine S after RESET(S) (R460). -/
def EngineS.reset (cfg : Config) : EngineS where
  ch := #v[SChannel.reset cfg.drqResetS[0], SChannel.reset cfg.drqResetS[1], SChannel.reset cfg.drqResetS[2],
    SChannel.reset cfg.drqResetS[3], SChannel.reset cfg.drqResetS[4], SChannel.reset cfg.drqResetS[5],
    SChannel.reset cfg.drqResetS[6], SChannel.reset cfg.drqResetS[7], SChannel.reset cfg.drqResetS[8],
    SChannel.reset cfg.drqResetS[9], SChannel.reset cfg.drqResetS[10], SChannel.reset cfg.drqResetS[11],
    SChannel.reset cfg.drqResetS[12]]
  dpcr := 0
  dpcr2 := 0
  be := false
  im1 := 0
  mie := false
  ip1 := 0
  mif := false
  tip := 0
  im2 := 0
  ip2 := 0
  dmacen := 0
  dmacinten := 0
  fault := none

/-- The machine at power-on: RESET(P) and RESET(S) applied (R462), the configuration of R12, nothing in the memories
(log 5), no peer answer scripted (log 7), no operation pending (log 1, log 2). -/
def State.reset : State where
  engP := EngineP.reset Config.default
  engS := EngineS.reset Config.default
  cfg := Config.default
  memP := []
  memS := []
  spr := []
  peersP := Vector.replicate 10 []
  peersS := Vector.replicate 13 []
  pending := []
  peerCalls := 0
  log := []
  response := .none

end Sys2Proof.Machine
end

