-- ==== Sys2Proof/Machine/Operands.lean ====
section
/-! DEFINITION. The bit fields of every register (30_encoding.md §1, §2), the byte lanes of BCR, and the addresses the
engines present to their ports (R104). -/

namespace Sys2Proof.Machine

/-! ## Engine P registers -/

/-- The write mask of `P.CHCR` (R140, R145): bits 1 and 15:9 are never set. -/
def pChcrMask : Word := 0xFFFF01FD

/-- The transfer modes of engine P (R141). -/
inductive PMode where
  | normal
  | chain
  | interleave
  | reserved
  deriving DecidableEq, Repr

/-- `P.CHCR.DIR`, bit 0 (R140): memory to peer when set (R21). -/
def pDir (v : Word) : Bool := v.getLsbD 0

/-- `P.CHCR.MOD`, bits 3:2 (R140, R141). -/
def pMode (v : Word) : PMode :=
  match (v.extractLsb' 2 2).toFin with
  | 0 => .normal
  | 1 => .chain
  | 2 => .interleave
  | 3 => .reserved

/-- `P.CHCR.TTE`, bit 6 (R140). -/
def pTte (v : Word) : Bool := v.getLsbD 6

/-- `P.CHCR.TIE`, bit 7 (R140). -/
def pTie (v : Word) : Bool := v.getLsbD 7

/-- `P.CHCR.STR`, bit 8 (R140). -/
def pStr (v : Word) : Bool := v.getLsbD 8

/-- `P.CHCR.STR <- 0` (R304). -/
def pClearStr (v : Word) : Word := v &&& ~~~(0x100 : Word)

/-- `P.CHCR[31:16] <- tag` (R252). -/
def pSetTag (v : Word) (tag : BitVec 16) : Word := tag ++ v.setWidth 16

/-- `P.D_CTRL.DMAE`, bit 0 (R146). -/
def dmae (v : Word) : Bool := v.getLsbD 0

/-- `P.D_PCR.CPC`, bits 9:0 (R148). -/
def cpc (v : Word) : BitVec 10 := v.setWidth 10

/-- `P.D_STAT` as read (R147, R208). -/
def dStatValue (cis cim : BitVec 10) : Word := cis.setWidth 32 ||| (cim.setWidth 32 <<< 16)

/-- The pending bits of a value written to `P.D_STAT`, 9:0 (R147, R209). -/
def dStatClear (v : Word) : BitVec 10 := v.extractLsb' 0 10

/-- The mask bits of a value written to `P.D_STAT`, 25:16 (R147, R209). -/
def dStatToggle (v : Word) : BitVec 10 := v.extractLsb' 16 10

/-! ## Engine S registers -/

/-- The transfer modes of engine S (R156). -/
inductive SMode where
  | burst
  | slice
  | linkedList
  | chain
  deriving DecidableEq, Repr

/-- `S.CHCR.DIR`, bit 0 (R150). -/
def sDir (v : Word) : Bool := v.getLsbD 0

/-- `S.CHCR.MAS`, bit 1 (R150). -/
def sMas (v : Word) : Bool := v.getLsbD 1

/-- `S.CHCR.MODE`, bits 10:9 (R150, R156). -/
def sMode (v : Word) : SMode :=
  match (v.extractLsb' 9 2).toFin with
  | 0 => .burst
  | 1 => .slice
  | 2 => .linkedList
  | 3 => .chain

/-- `S.CHCR.STR`, bit 24 (R150). -/
def sStr (v : Word) : Bool := v.getLsbD 24

/-- `S.CHCR[24] <- 0` (R356). -/
def sClearStr (v : Word) : Word := v &&& ~~~(0x01000000 : Word)

/-- The product `BS × BA` of a BCR, exact (R151, R346). -/
def bcrWords (v : Word) : Word := (v.extractLsb' 0 16).setWidth 32 * (v.extractLsb' 16 16).setWidth 32

/-- A read of BCR at byte offset k (R222): the lane, zero-extended. -/
def bcrRead (v : Word) (k : Nat) (w : AccessWidth) : Word :=
  match w with
  | .w32 => v
  | .w16 => (v.extractLsb' (8 * k) 16).setWidth 32
  | .w8 => (v.extractLsb' (8 * k) 8).setWidth 32

/-- A write of BCR at byte offset k (R223): the lane is replaced, the other bits are unchanged. -/
def bcrWrite (old : Word) (k : Nat) (w : AccessWidth) (v : Word) : Word :=
  match w with
  | .w32 => v
  | .w16 => (old &&& ~~~((0xFFFF : Word) <<< (8 * k))) ||| ((v &&& 0xFFFF) <<< (8 * k))
  | .w8 => (old &&& ~~~((0xFF : Word) <<< (8 * k))) ||| ((v &&& 0xFF) <<< (8 * k))

/-- `EnableS(c)` (R340): bit `4c+3` of DPCR for channels 0 to 6, bit `4(c-7)+3` of DPCR2 for channels 7 to 12. -/
def enableS (e : EngineS) (c : SChan) : Bool :=
  if c.val ≤ 6 then e.dpcr.getLsbD (4 * c.val + 3) else e.dpcr2.getLsbD (4 * (c.val - 7) + 3)

/-- `S.DMACEN[0]` (R155). -/
def sEnable (v : Word) : Bool := v.getLsbD 0

/-- `S.DMACINTEN.MID`, bit 1 (R155). -/
def mid (v : Word) : Bool := v.getLsbD 1

/-- A flag as a bit of a register value. -/
def flagAt (b : Bool) (i : Nat) : Word := (BitVec.ofBool b).setWidth 32 <<< i

/-- `S.DICR` as read (R152, R232). -/
def dicrValue (e : EngineS) : Word :=
  flagAt e.be 15 ||| (e.im1.setWidth 32 <<< 16) ||| flagAt e.mie 23 ||| (e.ip1.setWidth 32 <<< 24) ||| flagAt e.mif 31

/-- `S.DICR2` as read (R153, R234). -/
def dicr2Value (e : EngineS) : Word :=
  e.tip.setWidth 32 ||| (e.im2.setWidth 32 <<< 16) ||| (e.ip2.setWidth 32 <<< 24)

/-! ## Addresses at the ports -/

/-- An engine P address as presented to the bus: bits 3:0 cleared (R104). -/
def busAddrP (a : Word) : Word := a &&& ~~~(0xF : Word)

/-- An engine S address as presented to the bus: bits 1:0 cleared, zero-extended (R103, R104). -/
def busAddrS (a : AddrS) : Word := (a &&& ~~~(0x3 : AddrS)).setWidth 32

/-- `SADR & 0x3FF0` (R144, R302). -/
def sprOffset (a : SprAddr) : SprAddr := a &&& 0x3FF0

/-! ## Small helpers -/

/-- A bit set with bit i added. -/
def withBit {n : Nat} (v : BitVec n) (i : Nat) : BitVec n := v ||| (1#n <<< i)

/-- The scratchpad channels of engine P, fromSPR and toSPR (R102, R302). -/
def isSprChan (c : PChan) : Bool := c == 8 || c == 9

end Sys2Proof.Machine
end

