-- ==== Sys2Proof/Machine/Flags.lean ====
section
/-! DEFINITION. The flags: the master interrupt flags and their re-evaluation (R410, R415), and CPCOND (R424). -/

namespace Sys2Proof.Machine

/-- Engine P's master flag from its sets: `(CIS & CIM) != 0` (R410). -/
def masterP (cis cim : BitVec 10) : Bool := cis &&& cim != 0

/-- `ReevalP()` (R410, R411): a raise on the flag's rising edge only. -/
def reevalP (s : State) : State :=
  let new := masterP s.engP.cis s.engP.cim
  let s1 := if new && !s.engP.master then s.record (.intcRaise .P) else s
  s1.setEngP { s1.engP with master := new }

/-- Engine S's master flag: `BE | (MIE & ((IP1 | IP2) != 0)) | (TIP != 0)`, the two pending sets widened with zeros
(R415). -/
def masterS (e : EngineS) : Bool :=
  e.be || (e.mie && (e.ip1 ||| e.ip2.setWidth 7 != 0)) || e.tip != 0

/-- `ReevalS()` (R415, R416): a raise on a rising edge while MID is clear. -/
def reevalS (s : State) : State :=
  let new := masterS s.engS
  let s1 := if new && !s.engS.mif && !mid s.engS.dmacinten then s.record (.intcRaise .S) else s
  s1.setEngS { s1.engS with mif := new }

/-- CPCOND (R424): every channel's completion bit is set, or the channel is not under priority control. -/
def cpcondOf (e : EngineP) : Bool :=
  PChan.all.all fun c => e.cis.getLsbD c.val || !(cpc e.dPcr).getLsbD c.val

end Sys2Proof.Machine
end

