-- ==== Sys2Proof/Machine/Ops.lean ====
section
/-! DEFINITION. The named operations over memory, the ports and the engines: bytes, words and quadwords in canonical
memory; the bus, scratchpad and peer ports; what an operation answers; taking a fatal error, and the reset that ends
it. -/

namespace Sys2Proof.Machine

/-! ## Memory -/

/-- What an address that no entry lists reads as (log 5). -/
def Memory.unlisted : Byte := 0

/-- The canonical form: addresses strictly rising, and no entry equal to what an unlisted address reads as. -/
def Memory.wf : Memory → Bool
  | [] => true
  | [x] => x.2 != Memory.unlisted
  | x :: y :: m => x.2 != Memory.unlisted && decide (x.1 < y.1) && Memory.wf (y :: m)

/-- Every listed address is below a limit. -/
def Memory.below (limit : Nat) (m : Memory) : Bool := m.all fun x => decide (x.1 < limit)

/-- The byte at an address. -/
def Memory.readByte : Memory → Nat → Byte
  | [], _ => Memory.unlisted
  | x :: m, a => if x.1 = a then x.2 else Memory.readByte m a

/-- The memory with one byte written, in canonical form. -/
def Memory.writeByte : Memory → Nat → Byte → Memory
  | [], a, v => if v = Memory.unlisted then [] else [(a, v)]
  | x :: m, a, v =>
    if a < x.1 then (if v = Memory.unlisted then x :: m else (a, v) :: x :: m)
    else if a = x.1 then (if v = Memory.unlisted then m else (a, v) :: m)
    else x :: Memory.writeByte m a v

/-- The 32-bit word at an address, little-endian (R105). -/
def Memory.readWord (m : Memory) (a : Nat) : Word :=
  m.readByte (a + 3) ++ m.readByte (a + 2) ++ m.readByte (a + 1) ++ m.readByte a

/-- A 32-bit word written at an address, little-endian (R105). -/
def Memory.writeWord (m : Memory) (a : Nat) (v : Word) : Memory :=
  (((m.writeByte a (v.extractLsb' 0 8)).writeByte (a + 1) (v.extractLsb' 8 8)).writeByte (a + 2)
    (v.extractLsb' 16 8)).writeByte (a + 3) (v.extractLsb' 24 8)

/-- The quadword at an address: bits 31:0 are the word at the lowest address (R105). -/
def Memory.readQuad (m : Memory) (a : Nat) : Quad :=
  m.readWord (a + 12) ++ m.readWord (a + 8) ++ m.readWord (a + 4) ++ m.readWord a

/-- A quadword written at an address (R105). -/
def Memory.writeQuad (m : Memory) (a : Nat) (v : Quad) : Memory :=
  (((m.writeWord a (v.extractLsb' 0 32)).writeWord (a + 4) (v.extractLsb' 32 32)).writeWord (a + 8)
    (v.extractLsb' 64 32)).writeWord (a + 12) (v.extractLsb' 96 32)

/-! ## The bus and scratchpad ports (R100, R102, R104) -/

/-- What engine P's `MemRead(a & ~0xF, 16)` returns. -/
def busReadP (s : State) (a : Word) : Quad := s.memP.readQuad (busAddrP a).toNat

/-- The state after that read. -/
def afterBusReadP (a : Word) (s : State) : State := s.record (.memReadP (busAddrP a))

/-- Engine P's `MemWrite(a & ~0xF, 16, v)`. -/
def busWriteP (a : Word) (v : Quad) (s : State) : State :=
  (s.setMemP (s.memP.writeQuad (busAddrP a).toNat v)).record (.memWriteP (busAddrP a) v)

/-- What engine S's `MemRead(a & ~0x3, 4)` returns. -/
def busReadS (s : State) (a : AddrS) : Word := s.memS.readWord (busAddrS a).toNat

/-- The state after that read. -/
def afterBusReadS (a : AddrS) (s : State) : State := s.record (.memReadS (busAddrS a))

/-- Engine S's `MemWrite(a & ~0x3, 4, v)`. -/
def busWriteS (a : AddrS) (v : Word) (s : State) : State :=
  (s.setMemS (s.memS.writeWord (busAddrS a).toNat v)).record (.memWriteS (busAddrS a) v)

/-- `P.SADR[c] <- (P.SADR[c] + 16) mod 2^14` (R302). -/
def advanceSadr (c : PChan) (s : State) : State :=
  s.setPch c { s.pch c with sadr := (s.pch c).sadr + 16 }

/-- The quadword that `SprGet(c)` returns (R302). -/
def sprReadP (s : State) (c : PChan) : Quad := s.spr.readQuad (sprOffset (s.pch c).sadr).toNat

/-- The state after `SprGet(c)` (R302). -/
def afterSprGet (c : PChan) (s : State) : State :=
  advanceSadr c (s.record (.sprRead (sprOffset (s.pch c).sadr)))

/-- `SprPut(c, v)` (R302). -/
def sprPut (c : PChan) (v : Quad) (s : State) : State :=
  advanceSadr c ((s.setSpr (s.spr.writeQuad (sprOffset (s.pch c).sadr).toNat v)).record
    (.sprWrite (sprOffset (s.pch c).sadr) v))

/-! ## The peer ports (R17, R112, R115) -/

/-- What engine P's peer c answers to the next call: the next scripted answer, or a free value (log 7). The peer of channels
8 and 9 is the scratchpad port, which is never full, never empty and makes no request (R114, R302; log 26). -/
def answerP (s : State) (c : PChan) : PeerReply Quad :=
  if isSprChan c then ⟨true, some (sprReadP s c), none⟩
  else
    match s.peersP[c] with
    | r :: _ => r
    | [] => Config.peerReplyP c s.peerCalls

/-- The script or the call counter moved past that answer. -/
def dropAnswerP (c : PChan) (s : State) : State :=
  match s.peersP[c] with
  | _ :: rest => { s with peersP := s.peersP.set c rest }
  | [] => { s with peerCalls := s.peerCalls + 1 }

/-- `SET_REQUEST` made by a peer inside a call, if it makes it (R112). -/
def peerRequestP (c : PChan) (r : Option Bool) (s : State) : State :=
  match r with
  | some b => s.setPch c { s.pch c with drq := b }
  | none => s

/-- The state after engine P's peer c has answered a call, the call recorded as `e`. -/
def afterCallP (c : PChan) (e : Event) (s : State) : State :=
  (peerRequestP c (answerP s c).request (dropAnswerP c s)).record e

/-- The state after `PeerPush(P, c, v)`. -/
def afterPushP (c : PChan) (v : Quad) (s : State) : State := afterCallP c (.pushP c v (answerP s c).accepts) s

/-- The state after `PeerPop(P, c)`. -/
def afterPopP (c : PChan) (s : State) : State := afterCallP c (.popP c (answerP s c).unit) s

/-- The state after `PeerPushTag(c, v)`. -/
def afterPushTagP (c : PChan) (v : Payload) (s : State) : State :=
  afterCallP c (.pushTagP c v (answerP s c).accepts) s

/-- What engine S's peer c answers to the next call (log 7). -/
def answerS (s : State) (c : SChan) : PeerReply Word :=
  match s.peersS[c] with
  | r :: _ => r
  | [] => Config.peerReplyS c s.peerCalls

/-- The script or the call counter moved past that answer. -/
def dropAnswerS (c : SChan) (s : State) : State :=
  match s.peersS[c] with
  | _ :: rest => { s with peersS := s.peersS.set c rest }
  | [] => { s with peerCalls := s.peerCalls + 1 }

/-- `SET_REQUEST` made by a peer inside a call, if it makes it (R112). -/
def peerRequestS (c : SChan) (r : Option Bool) (s : State) : State :=
  match r with
  | some b => s.setSch c { s.sch c with drq := b }
  | none => s

/-- The state after engine S's peer c has answered a call, the call recorded as `e`. -/
def afterCallS (c : SChan) (e : Event) (s : State) : State :=
  (peerRequestS c (answerS s c).request (dropAnswerS c s)).record e

/-- The state after `PeerPush(S, c, v)`. -/
def afterPushS (c : SChan) (v : Word) (s : State) : State := afterCallS c (.pushS c v (answerS s c).accepts) s

/-- The state after `PeerPop(S, c)`. -/
def afterPopS (c : SChan) (s : State) : State := afterCallS c (.popS c (answerS s c).unit) s

/-! ## Fatal errors (R400 to R404), and the reset that ends them (R460) -/

/-- A fault record with the fields every record has. -/
def fatalRecord (e : Engine) (code : FatalCode) (op : FatalOp) : FaultRecord where
  engine := e
  code := code
  channel := none
  value := none
  operation := op
  register := none
  address := none
  width := none

/-- The fault record of an engine. -/
def faultOf (e : Engine) (s : State) : Option FaultRecord :=
  match e with
  | .P => s.engP.fault
  | .S => s.engS.fault

/-- An engine is halted by a fatal error (R403). -/
def halted (e : Engine) (s : State) : Bool := (faultOf e s).isSome

/-- `raise Fatal` of engine e (R18, R400, R404): the core is as it was before the operation, in `s0`, plus the fault
record; what the operation did outside the core, up to `s1`, stands. The outcome FAULT(record) goes to the caller. -/
def takeFatal (e : Engine) (s0 s1 : State) (r : FaultRecord) : State :=
  match e with
  | .P => (s1.setEngP { s0.engP with fault := some r }).respond (.fault r)
  | .S => (s1.setEngS { s0.engS with fault := some r }).respond (.fault r)

/-- RESET(P) (R460): the one operation that ends a fatal error of engine P (R403). -/
def resetEngineP (s : State) : State := (s.setEngP (EngineP.reset s.cfg)).respond .done

/-- RESET(S) (R460). -/
def resetEngineS (s : State) : State := (s.setEngS (EngineS.reset s.cfg)).respond .done

/-- The end of a sub-step that began in `s0` and served channel c: PROGRESS(c), or the fatal error taken (R290, R340,
R400). -/
def settle (e : Engine) (c : Nat) (s0 : State) : SubStep → State
  | .done s1 => s1.respond (.progress c)
  | .fatal r s1 => takeFatal e s0 s1 r

/-! ## Register accesses (R190, R403) -/

/-- A register read of engine e that returns v; a halted engine makes no step (R403; log 3). -/
def readReg (e : Engine) (v : Word) (s : State) : State :=
  if halted e s then s.respond .noStep else s.respond (.value v)

/-- A register write of engine e that leaves the state `s1`; a halted engine makes no step (R403; log 3). -/
def writeReg (e : Engine) (s1 s : State) : State :=
  if halted e s then s.respond .noStep else s1.respond .done

end Sys2Proof.Machine
end

