-- ==== Sys2Proof/Machine/PRegs.lean ====
section
/-! DEFINITION. Software accesses to engine P's registers (40_register_file.md §2, §3): one operation per rule, then one
meaning per row of the opcode table. Address and width are checked by the decoder and Machine/Fetch.lean (R190). -/

namespace Sys2Proof.Machine

/-! ## The rules -/

/-- RD P.CHCR (R194). -/
def rdPChcr (c : PChan) (s : State) : State := readReg .P (s.pch c).chcr s

/-- WR P.CHCR (R195): the writable bits; on a start, STR going from 0 to 1, hasTag and chainEnded are cleared. -/
def wrPChcr (c : PChan) (v : Word) (s : State) : State :=
  let x := s.pch c
  let x1 := if !pStr x.chcr && pStr v then { x with hasTag := false, chainEnded := false } else x
  writeReg .P (s.setPch c { x1 with chcr := v &&& pChcrMask }) s

/-- RD P.MADR (R192). -/
def rdPMadr (c : PChan) (s : State) : State := readReg .P (s.pch c).madr s

/-- WR P.MADR (R193). -/
def wrPMadr (c : PChan) (v : Word) (s : State) : State := writeReg .P (s.setPch c { s.pch c with madr := v }) s

/-- RD P.QWC (R196). -/
def rdPQwc (c : PChan) (s : State) : State := readReg .P ((s.pch c).qwc.setWidth 32) s

/-- WR P.QWC (R197). -/
def wrPQwc (c : PChan) (v : Word) (s : State) : State :=
  writeReg .P (s.setPch c { s.pch c with qwc := v.extractLsb' 0 16 }) s

/-- RD P.TADR (R198). -/
def rdPTadr (c : PChan) (s : State) : State := readReg .P (s.pch c).tadr s

/-- WR P.TADR (R199). -/
def wrPTadr (c : PChan) (v : Word) (s : State) : State := writeReg .P (s.setPch c { s.pch c with tadr := v }) s

/-- RD P.ASR0 (R200). -/
def rdPAsr0 (c : PChan) (s : State) : State := readReg .P (s.pch c).asr0 s

/-- WR P.ASR0 (R201). -/
def wrPAsr0 (c : PChan) (v : Word) (s : State) : State := writeReg .P (s.setPch c { s.pch c with asr0 := v }) s

/-- RD P.ASR1 (R202). -/
def rdPAsr1 (c : PChan) (s : State) : State := readReg .P (s.pch c).asr1 s

/-- WR P.ASR1 (R203). -/
def wrPAsr1 (c : PChan) (v : Word) (s : State) : State := writeReg .P (s.setPch c { s.pch c with asr1 := v }) s

/-- RD P.SADR (R204). -/
def rdPSadr (c : PChan) (s : State) : State := readReg .P ((s.pch c).sadr.setWidth 32) s

/-- WR P.SADR (R205). -/
def wrPSadr (c : PChan) (v : Word) (s : State) : State :=
  writeReg .P (s.setPch c { s.pch c with sadr := v.extractLsb' 0 14 }) s

/-- RD P.D_CTRL (R206). -/
def rdPDCtrl (s : State) : State := readReg .P s.engP.dCtrl s

/-- WR P.D_CTRL (R207). -/
def wrPDCtrl (v : Word) (s : State) : State := writeReg .P (s.setEngP { s.engP with dCtrl := v }) s

/-- RD P.D_STAT (R208). -/
def rdPDStat (s : State) : State := readReg .P (dStatValue s.engP.cis s.engP.cim) s

/-- WR P.D_STAT (R209): write-1-to-clear CIS, XOR-toggle CIM, re-evaluate. -/
def wrPDStat (v : Word) (s : State) : State :=
  writeReg .P (reevalP (s.setEngP { s.engP with
    cis := s.engP.cis &&& ~~~(dStatClear v)
    cim := s.engP.cim ^^^ dStatToggle v })) s

/-- RD P.D_PCR (R210). -/
def rdPDPcr (s : State) : State := readReg .P s.engP.dPcr s

/-- WR P.D_PCR (R211): no re-evaluation. -/
def wrPDPcr (v : Word) (s : State) : State := writeReg .P (s.setEngP { s.engP with dPcr := v }) s

/-! ## The rows of the opcode table -/

/-- `RD P.CHCR[0]` (R194). -/
def execRdPChcr_0 (s : State) : Host.Outcome State Fault Refusal :=
  .next (rdPChcr 0 s)

/-- `WR P.CHCR[0]` (R195). -/
def execWrPChcr_0 (v : Word) (s : State) : Host.Outcome State Fault Refusal :=
  .next (wrPChcr 0 v s)

/-- `RD P.MADR[0]` (R192). -/
def execRdPMadr_0 (s : State) : Host.Outcome State Fault Refusal :=
  .next (rdPMadr 0 s)

/-- `WR P.MADR[0]` (R193). -/
def execWrPMadr_0 (v : Word) (s : State) : Host.Outcome State Fault Refusal :=
  .next (wrPMadr 0 v s)

/-- `RD P.QWC[0]` (R196). -/
def execRdPQwc_0 (s : State) : Host.Outcome State Fault Refusal :=
  .next (rdPQwc 0 s)

/-- `WR P.QWC[0]` (R197). -/
def execWrPQwc_0 (v : Word) (s : State) : Host.Outcome State Fault Refusal :=
  .next (wrPQwc 0 v s)

/-- `RD P.TADR[0]` (R198). -/
def execRdPTadr_0 (s : State) : Host.Outcome State Fault Refusal :=
  .next (rdPTadr 0 s)

/-- `WR P.TADR[0]` (R199). -/
def execWrPTadr_0 (v : Word) (s : State) : Host.Outcome State Fault Refusal :=
  .next (wrPTadr 0 v s)

/-- `RD P.ASR0[0]` (R200). -/
def execRdPAsr0_0 (s : State) : Host.Outcome State Fault Refusal :=
  .next (rdPAsr0 0 s)

/-- `WR P.ASR0[0]` (R201). -/
def execWrPAsr0_0 (v : Word) (s : State) : Host.Outcome State Fault Refusal :=
  .next (wrPAsr0 0 v s)

/-- `RD P.ASR1[0]` (R202). -/
def execRdPAsr1_0 (s : State) : Host.Outcome State Fault Refusal :=
  .next (rdPAsr1 0 s)

/-- `WR P.ASR1[0]` (R203). -/
def execWrPAsr1_0 (v : Word) (s : State) : Host.Outcome State Fault Refusal :=
  .next (wrPAsr1 0 v s)

/-- `RD P.SADR[0]` (R204). -/
def execRdPSadr_0 (s : State) : Host.Outcome State Fault Refusal :=
  .next (rdPSadr 0 s)

/-- `WR P.SADR[0]` (R205). -/
def execWrPSadr_0 (v : Word) (s : State) : Host.Outcome State Fault Refusal :=
  .next (wrPSadr 0 v s)

/-- `RD P.CHCR[1]` (R194). -/
def execRdPChcr_1 (s : State) : Host.Outcome State Fault Refusal :=
  .next (rdPChcr 1 s)

/-- `WR P.CHCR[1]` (R195). -/
def execWrPChcr_1 (v : Word) (s : State) : Host.Outcome State Fault Refusal :=
  .next (wrPChcr 1 v s)

/-- `RD P.MADR[1]` (R192). -/
def execRdPMadr_1 (s : State) : Host.Outcome State Fault Refusal :=
  .next (rdPMadr 1 s)

/-- `WR P.MADR[1]` (R193). -/
def execWrPMadr_1 (v : Word) (s : State) : Host.Outcome State Fault Refusal :=
  .next (wrPMadr 1 v s)

/-- `RD P.QWC[1]` (R196). -/
def execRdPQwc_1 (s : State) : Host.Outcome State Fault Refusal :=
  .next (rdPQwc 1 s)

/-- `WR P.QWC[1]` (R197). -/
def execWrPQwc_1 (v : Word) (s : State) : Host.Outcome State Fault Refusal :=
  .next (wrPQwc 1 v s)

/-- `RD P.TADR[1]` (R198). -/
def execRdPTadr_1 (s : State) : Host.Outcome State Fault Refusal :=
  .next (rdPTadr 1 s)

/-- `WR P.TADR[1]` (R199). -/
def execWrPTadr_1 (v : Word) (s : State) : Host.Outcome State Fault Refusal :=
  .next (wrPTadr 1 v s)

/-- `RD P.ASR0[1]` (R200). -/
def execRdPAsr0_1 (s : State) : Host.Outcome State Fault Refusal :=
  .next (rdPAsr0 1 s)

/-- `WR P.ASR0[1]` (R201). -/
def execWrPAsr0_1 (v : Word) (s : State) : Host.Outcome State Fault Refusal :=
  .next (wrPAsr0 1 v s)

/-- `RD P.ASR1[1]` (R202). -/
def execRdPAsr1_1 (s : State) : Host.Outcome State Fault Refusal :=
  .next (rdPAsr1 1 s)

/-- `WR P.ASR1[1]` (R203). -/
def execWrPAsr1_1 (v : Word) (s : State) : Host.Outcome State Fault Refusal :=
  .next (wrPAsr1 1 v s)

/-- `RD P.SADR[1]` (R204). -/
def execRdPSadr_1 (s : State) : Host.Outcome State Fault Refusal :=
  .next (rdPSadr 1 s)

/-- `WR P.SADR[1]` (R205). -/
def execWrPSadr_1 (v : Word) (s : State) : Host.Outcome State Fault Refusal :=
  .next (wrPSadr 1 v s)

/-- `RD P.CHCR[2]` (R194). -/
def execRdPChcr_2 (s : State) : Host.Outcome State Fault Refusal :=
  .next (rdPChcr 2 s)

/-- `WR P.CHCR[2]` (R195). -/
def execWrPChcr_2 (v : Word) (s : State) : Host.Outcome State Fault Refusal :=
  .next (wrPChcr 2 v s)

/-- `RD P.MADR[2]` (R192). -/
def execRdPMadr_2 (s : State) : Host.Outcome State Fault Refusal :=
  .next (rdPMadr 2 s)

/-- `WR P.MADR[2]` (R193). -/
def execWrPMadr_2 (v : Word) (s : State) : Host.Outcome State Fault Refusal :=
  .next (wrPMadr 2 v s)

/-- `RD P.QWC[2]` (R196). -/
def execRdPQwc_2 (s : State) : Host.Outcome State Fault Refusal :=
  .next (rdPQwc 2 s)

/-- `WR P.QWC[2]` (R197). -/
def execWrPQwc_2 (v : Word) (s : State) : Host.Outcome State Fault Refusal :=
  .next (wrPQwc 2 v s)

/-- `RD P.TADR[2]` (R198). -/
def execRdPTadr_2 (s : State) : Host.Outcome State Fault Refusal :=
  .next (rdPTadr 2 s)

/-- `WR P.TADR[2]` (R199). -/
def execWrPTadr_2 (v : Word) (s : State) : Host.Outcome State Fault Refusal :=
  .next (wrPTadr 2 v s)

/-- `RD P.ASR0[2]` (R200). -/
def execRdPAsr0_2 (s : State) : Host.Outcome State Fault Refusal :=
  .next (rdPAsr0 2 s)

/-- `WR P.ASR0[2]` (R201). -/
def execWrPAsr0_2 (v : Word) (s : State) : Host.Outcome State Fault Refusal :=
  .next (wrPAsr0 2 v s)

/-- `RD P.ASR1[2]` (R202). -/
def execRdPAsr1_2 (s : State) : Host.Outcome State Fault Refusal :=
  .next (rdPAsr1 2 s)

/-- `WR P.ASR1[2]` (R203). -/
def execWrPAsr1_2 (v : Word) (s : State) : Host.Outcome State Fault Refusal :=
  .next (wrPAsr1 2 v s)

/-- `RD P.SADR[2]` (R204). -/
def execRdPSadr_2 (s : State) : Host.Outcome State Fault Refusal :=
  .next (rdPSadr 2 s)

/-- `WR P.SADR[2]` (R205). -/
def execWrPSadr_2 (v : Word) (s : State) : Host.Outcome State Fault Refusal :=
  .next (wrPSadr 2 v s)

/-- `RD P.CHCR[3]` (R194). -/
def execRdPChcr_3 (s : State) : Host.Outcome State Fault Refusal :=
  .next (rdPChcr 3 s)

/-- `WR P.CHCR[3]` (R195). -/
def execWrPChcr_3 (v : Word) (s : State) : Host.Outcome State Fault Refusal :=
  .next (wrPChcr 3 v s)

/-- `RD P.MADR[3]` (R192). -/
def execRdPMadr_3 (s : State) : Host.Outcome State Fault Refusal :=
  .next (rdPMadr 3 s)

/-- `WR P.MADR[3]` (R193). -/
def execWrPMadr_3 (v : Word) (s : State) : Host.Outcome State Fault Refusal :=
  .next (wrPMadr 3 v s)

/-- `RD P.QWC[3]` (R196). -/
def execRdPQwc_3 (s : State) : Host.Outcome State Fault Refusal :=
  .next (rdPQwc 3 s)

/-- `WR P.QWC[3]` (R197). -/
def execWrPQwc_3 (v : Word) (s : State) : Host.Outcome State Fault Refusal :=
  .next (wrPQwc 3 v s)

/-- `RD P.TADR[3]` (R198). -/
def execRdPTadr_3 (s : State) : Host.Outcome State Fault Refusal :=
  .next (rdPTadr 3 s)

/-- `WR P.TADR[3]` (R199). -/
def execWrPTadr_3 (v : Word) (s : State) : Host.Outcome State Fault Refusal :=
  .next (wrPTadr 3 v s)

/-- `RD P.ASR0[3]` (R200). -/
def execRdPAsr0_3 (s : State) : Host.Outcome State Fault Refusal :=
  .next (rdPAsr0 3 s)

/-- `WR P.ASR0[3]` (R201). -/
def execWrPAsr0_3 (v : Word) (s : State) : Host.Outcome State Fault Refusal :=
  .next (wrPAsr0 3 v s)

/-- `RD P.ASR1[3]` (R202). -/
def execRdPAsr1_3 (s : State) : Host.Outcome State Fault Refusal :=
  .next (rdPAsr1 3 s)

/-- `WR P.ASR1[3]` (R203). -/
def execWrPAsr1_3 (v : Word) (s : State) : Host.Outcome State Fault Refusal :=
  .next (wrPAsr1 3 v s)

/-- `RD P.SADR[3]` (R204). -/
def execRdPSadr_3 (s : State) : Host.Outcome State Fault Refusal :=
  .next (rdPSadr 3 s)

/-- `WR P.SADR[3]` (R205). -/
def execWrPSadr_3 (v : Word) (s : State) : Host.Outcome State Fault Refusal :=
  .next (wrPSadr 3 v s)

/-- `RD P.CHCR[4]` (R194). -/
def execRdPChcr_4 (s : State) : Host.Outcome State Fault Refusal :=
  .next (rdPChcr 4 s)

/-- `WR P.CHCR[4]` (R195). -/
def execWrPChcr_4 (v : Word) (s : State) : Host.Outcome State Fault Refusal :=
  .next (wrPChcr 4 v s)

/-- `RD P.MADR[4]` (R192). -/
def execRdPMadr_4 (s : State) : Host.Outcome State Fault Refusal :=
  .next (rdPMadr 4 s)

/-- `WR P.MADR[4]` (R193). -/
def execWrPMadr_4 (v : Word) (s : State) : Host.Outcome State Fault Refusal :=
  .next (wrPMadr 4 v s)

/-- `RD P.QWC[4]` (R196). -/
def execRdPQwc_4 (s : State) : Host.Outcome State Fault Refusal :=
  .next (rdPQwc 4 s)

/-- `WR P.QWC[4]` (R197). -/
def execWrPQwc_4 (v : Word) (s : State) : Host.Outcome State Fault Refusal :=
  .next (wrPQwc 4 v s)

/-- `RD P.TADR[4]` (R198). -/
def execRdPTadr_4 (s : State) : Host.Outcome State Fault Refusal :=
  .next (rdPTadr 4 s)

/-- `WR P.TADR[4]` (R199). -/
def execWrPTadr_4 (v : Word) (s : State) : Host.Outcome State Fault Refusal :=
  .next (wrPTadr 4 v s)

/-- `RD P.ASR0[4]` (R200). -/
def execRdPAsr0_4 (s : State) : Host.Outcome State Fault Refusal :=
  .next (rdPAsr0 4 s)

/-- `WR P.ASR0[4]` (R201). -/
def execWrPAsr0_4 (v : Word) (s : State) : Host.Outcome State Fault Refusal :=
  .next (wrPAsr0 4 v s)

/-- `RD P.ASR1[4]` (R202). -/
def execRdPAsr1_4 (s : State) : Host.Outcome State Fault Refusal :=
  .next (rdPAsr1 4 s)

/-- `WR P.ASR1[4]` (R203). -/
def execWrPAsr1_4 (v : Word) (s : State) : Host.Outcome State Fault Refusal :=
  .next (wrPAsr1 4 v s)

/-- `RD P.SADR[4]` (R204). -/
def execRdPSadr_4 (s : State) : Host.Outcome State Fault Refusal :=
  .next (rdPSadr 4 s)

/-- `WR P.SADR[4]` (R205). -/
def execWrPSadr_4 (v : Word) (s : State) : Host.Outcome State Fault Refusal :=
  .next (wrPSadr 4 v s)

/-- `RD P.CHCR[5]` (R194). -/
def execRdPChcr_5 (s : State) : Host.Outcome State Fault Refusal :=
  .next (rdPChcr 5 s)

/-- `WR P.CHCR[5]` (R195). -/
def execWrPChcr_5 (v : Word) (s : State) : Host.Outcome State Fault Refusal :=
  .next (wrPChcr 5 v s)

/-- `RD P.MADR[5]` (R192). -/
def execRdPMadr_5 (s : State) : Host.Outcome State Fault Refusal :=
  .next (rdPMadr 5 s)

/-- `WR P.MADR[5]` (R193). -/
def execWrPMadr_5 (v : Word) (s : State) : Host.Outcome State Fault Refusal :=
  .next (wrPMadr 5 v s)

/-- `RD P.QWC[5]` (R196). -/
def execRdPQwc_5 (s : State) : Host.Outcome State Fault Refusal :=
  .next (rdPQwc 5 s)

/-- `WR P.QWC[5]` (R197). -/
def execWrPQwc_5 (v : Word) (s : State) : Host.Outcome State Fault Refusal :=
  .next (wrPQwc 5 v s)

/-- `RD P.TADR[5]` (R198). -/
def execRdPTadr_5 (s : State) : Host.Outcome State Fault Refusal :=
  .next (rdPTadr 5 s)

/-- `WR P.TADR[5]` (R199). -/
def execWrPTadr_5 (v : Word) (s : State) : Host.Outcome State Fault Refusal :=
  .next (wrPTadr 5 v s)

/-- `RD P.ASR0[5]` (R200). -/
def execRdPAsr0_5 (s : State) : Host.Outcome State Fault Refusal :=
  .next (rdPAsr0 5 s)

/-- `WR P.ASR0[5]` (R201). -/
def execWrPAsr0_5 (v : Word) (s : State) : Host.Outcome State Fault Refusal :=
  .next (wrPAsr0 5 v s)

/-- `RD P.ASR1[5]` (R202). -/
def execRdPAsr1_5 (s : State) : Host.Outcome State Fault Refusal :=
  .next (rdPAsr1 5 s)

/-- `WR P.ASR1[5]` (R203). -/
def execWrPAsr1_5 (v : Word) (s : State) : Host.Outcome State Fault Refusal :=
  .next (wrPAsr1 5 v s)

/-- `RD P.SADR[5]` (R204). -/
def execRdPSadr_5 (s : State) : Host.Outcome State Fault Refusal :=
  .next (rdPSadr 5 s)

/-- `WR P.SADR[5]` (R205). -/
def execWrPSadr_5 (v : Word) (s : State) : Host.Outcome State Fault Refusal :=
  .next (wrPSadr 5 v s)

/-- `RD P.CHCR[6]` (R194). -/
def execRdPChcr_6 (s : State) : Host.Outcome State Fault Refusal :=
  .next (rdPChcr 6 s)

/-- `WR P.CHCR[6]` (R195). -/
def execWrPChcr_6 (v : Word) (s : State) : Host.Outcome State Fault Refusal :=
  .next (wrPChcr 6 v s)

/-- `RD P.MADR[6]` (R192). -/
def execRdPMadr_6 (s : State) : Host.Outcome State Fault Refusal :=
  .next (rdPMadr 6 s)

/-- `WR P.MADR[6]` (R193). -/
def execWrPMadr_6 (v : Word) (s : State) : Host.Outcome State Fault Refusal :=
  .next (wrPMadr 6 v s)

/-- `RD P.QWC[6]` (R196). -/
def execRdPQwc_6 (s : State) : Host.Outcome State Fault Refusal :=
  .next (rdPQwc 6 s)

/-- `WR P.QWC[6]` (R197). -/
def execWrPQwc_6 (v : Word) (s : State) : Host.Outcome State Fault Refusal :=
  .next (wrPQwc 6 v s)

/-- `RD P.TADR[6]` (R198). -/
def execRdPTadr_6 (s : State) : Host.Outcome State Fault Refusal :=
  .next (rdPTadr 6 s)

/-- `WR P.TADR[6]` (R199). -/
def execWrPTadr_6 (v : Word) (s : State) : Host.Outcome State Fault Refusal :=
  .next (wrPTadr 6 v s)

/-- `RD P.ASR0[6]` (R200). -/
def execRdPAsr0_6 (s : State) : Host.Outcome State Fault Refusal :=
  .next (rdPAsr0 6 s)

/-- `WR P.ASR0[6]` (R201). -/
def execWrPAsr0_6 (v : Word) (s : State) : Host.Outcome State Fault Refusal :=
  .next (wrPAsr0 6 v s)

/-- `RD P.ASR1[6]` (R202). -/
def execRdPAsr1_6 (s : State) : Host.Outcome State Fault Refusal :=
  .next (rdPAsr1 6 s)

/-- `WR P.ASR1[6]` (R203). -/
def execWrPAsr1_6 (v : Word) (s : State) : Host.Outcome State Fault Refusal :=
  .next (wrPAsr1 6 v s)

/-- `RD P.SADR[6]` (R204). -/
def execRdPSadr_6 (s : State) : Host.Outcome State Fault Refusal :=
  .next (rdPSadr 6 s)

/-- `WR P.SADR[6]` (R205). -/
def execWrPSadr_6 (v : Word) (s : State) : Host.Outcome State Fault Refusal :=
  .next (wrPSadr 6 v s)

/-- `RD P.CHCR[7]` (R194). -/
def execRdPChcr_7 (s : State) : Host.Outcome State Fault Refusal :=
  .next (rdPChcr 7 s)

/-- `WR P.CHCR[7]` (R195). -/
def execWrPChcr_7 (v : Word) (s : State) : Host.Outcome State Fault Refusal :=
  .next (wrPChcr 7 v s)

/-- `RD P.MADR[7]` (R192). -/
def execRdPMadr_7 (s : State) : Host.Outcome State Fault Refusal :=
  .next (rdPMadr 7 s)

/-- `WR P.MADR[7]` (R193). -/
def execWrPMadr_7 (v : Word) (s : State) : Host.Outcome State Fault Refusal :=
  .next (wrPMadr 7 v s)

/-- `RD P.QWC[7]` (R196). -/
def execRdPQwc_7 (s : State) : Host.Outcome State Fault Refusal :=
  .next (rdPQwc 7 s)

/-- `WR P.QWC[7]` (R197). -/
def execWrPQwc_7 (v : Word) (s : State) : Host.Outcome State Fault Refusal :=
  .next (wrPQwc 7 v s)

/-- `RD P.TADR[7]` (R198). -/
def execRdPTadr_7 (s : State) : Host.Outcome State Fault Refusal :=
  .next (rdPTadr 7 s)

/-- `WR P.TADR[7]` (R199). -/
def execWrPTadr_7 (v : Word) (s : State) : Host.Outcome State Fault Refusal :=
  .next (wrPTadr 7 v s)

/-- `RD P.ASR0[7]` (R200). -/
def execRdPAsr0_7 (s : State) : Host.Outcome State Fault Refusal :=
  .next (rdPAsr0 7 s)

/-- `WR P.ASR0[7]` (R201). -/
def execWrPAsr0_7 (v : Word) (s : State) : Host.Outcome State Fault Refusal :=
  .next (wrPAsr0 7 v s)

/-- `RD P.ASR1[7]` (R202). -/
def execRdPAsr1_7 (s : State) : Host.Outcome State Fault Refusal :=
  .next (rdPAsr1 7 s)

/-- `WR P.ASR1[7]` (R203). -/
def execWrPAsr1_7 (v : Word) (s : State) : Host.Outcome State Fault Refusal :=
  .next (wrPAsr1 7 v s)

/-- `RD P.SADR[7]` (R204). -/
def execRdPSadr_7 (s : State) : Host.Outcome State Fault Refusal :=
  .next (rdPSadr 7 s)

/-- `WR P.SADR[7]` (R205). -/
def execWrPSadr_7 (v : Word) (s : State) : Host.Outcome State Fault Refusal :=
  .next (wrPSadr 7 v s)

/-- `RD P.CHCR[8]` (R194). -/
def execRdPChcr_8 (s : State) : Host.Outcome State Fault Refusal :=
  .next (rdPChcr 8 s)

/-- `WR P.CHCR[8]` (R195). -/
def execWrPChcr_8 (v : Word) (s : State) : Host.Outcome State Fault Refusal :=
  .next (wrPChcr 8 v s)

/-- `RD P.MADR[8]` (R192). -/
def execRdPMadr_8 (s : State) : Host.Outcome State Fault Refusal :=
  .next (rdPMadr 8 s)

/-- `WR P.MADR[8]` (R193). -/
def execWrPMadr_8 (v : Word) (s : State) : Host.Outcome State Fault Refusal :=
  .next (wrPMadr 8 v s)

/-- `RD P.QWC[8]` (R196). -/
def execRdPQwc_8 (s : State) : Host.Outcome State Fault Refusal :=
  .next (rdPQwc 8 s)

/-- `WR P.QWC[8]` (R197). -/
def execWrPQwc_8 (v : Word) (s : State) : Host.Outcome State Fault Refusal :=
  .next (wrPQwc 8 v s)

/-- `RD P.TADR[8]` (R198). -/
def execRdPTadr_8 (s : State) : Host.Outcome State Fault Refusal :=
  .next (rdPTadr 8 s)

/-- `WR P.TADR[8]` (R199). -/
def execWrPTadr_8 (v : Word) (s : State) : Host.Outcome State Fault Refusal :=
  .next (wrPTadr 8 v s)

/-- `RD P.ASR0[8]` (R200). -/
def execRdPAsr0_8 (s : State) : Host.Outcome State Fault Refusal :=
  .next (rdPAsr0 8 s)

/-- `WR P.ASR0[8]` (R201). -/
def execWrPAsr0_8 (v : Word) (s : State) : Host.Outcome State Fault Refusal :=
  .next (wrPAsr0 8 v s)

/-- `RD P.ASR1[8]` (R202). -/
def execRdPAsr1_8 (s : State) : Host.Outcome State Fault Refusal :=
  .next (rdPAsr1 8 s)

/-- `WR P.ASR1[8]` (R203). -/
def execWrPAsr1_8 (v : Word) (s : State) : Host.Outcome State Fault Refusal :=
  .next (wrPAsr1 8 v s)

/-- `RD P.SADR[8]` (R204). -/
def execRdPSadr_8 (s : State) : Host.Outcome State Fault Refusal :=
  .next (rdPSadr 8 s)

/-- `WR P.SADR[8]` (R205). -/
def execWrPSadr_8 (v : Word) (s : State) : Host.Outcome State Fault Refusal :=
  .next (wrPSadr 8 v s)

/-- `RD P.CHCR[9]` (R194). -/
def execRdPChcr_9 (s : State) : Host.Outcome State Fault Refusal :=
  .next (rdPChcr 9 s)

/-- `WR P.CHCR[9]` (R195). -/
def execWrPChcr_9 (v : Word) (s : State) : Host.Outcome State Fault Refusal :=
  .next (wrPChcr 9 v s)

/-- `RD P.MADR[9]` (R192). -/
def execRdPMadr_9 (s : State) : Host.Outcome State Fault Refusal :=
  .next (rdPMadr 9 s)

/-- `WR P.MADR[9]` (R193). -/
def execWrPMadr_9 (v : Word) (s : State) : Host.Outcome State Fault Refusal :=
  .next (wrPMadr 9 v s)

/-- `RD P.QWC[9]` (R196). -/
def execRdPQwc_9 (s : State) : Host.Outcome State Fault Refusal :=
  .next (rdPQwc 9 s)

/-- `WR P.QWC[9]` (R197). -/
def execWrPQwc_9 (v : Word) (s : State) : Host.Outcome State Fault Refusal :=
  .next (wrPQwc 9 v s)

/-- `RD P.TADR[9]` (R198). -/
def execRdPTadr_9 (s : State) : Host.Outcome State Fault Refusal :=
  .next (rdPTadr 9 s)

/-- `WR P.TADR[9]` (R199). -/
def execWrPTadr_9 (v : Word) (s : State) : Host.Outcome State Fault Refusal :=
  .next (wrPTadr 9 v s)

/-- `RD P.ASR0[9]` (R200). -/
def execRdPAsr0_9 (s : State) : Host.Outcome State Fault Refusal :=
  .next (rdPAsr0 9 s)

/-- `WR P.ASR0[9]` (R201). -/
def execWrPAsr0_9 (v : Word) (s : State) : Host.Outcome State Fault Refusal :=
  .next (wrPAsr0 9 v s)

/-- `RD P.ASR1[9]` (R202). -/
def execRdPAsr1_9 (s : State) : Host.Outcome State Fault Refusal :=
  .next (rdPAsr1 9 s)

/-- `WR P.ASR1[9]` (R203). -/
def execWrPAsr1_9 (v : Word) (s : State) : Host.Outcome State Fault Refusal :=
  .next (wrPAsr1 9 v s)

/-- `RD P.SADR[9]` (R204). -/
def execRdPSadr_9 (s : State) : Host.Outcome State Fault Refusal :=
  .next (rdPSadr 9 s)

/-- `WR P.SADR[9]` (R205). -/
def execWrPSadr_9 (v : Word) (s : State) : Host.Outcome State Fault Refusal :=
  .next (wrPSadr 9 v s)

/-- `RD P.D_CTRL` (R206). -/
def execRdPDCtrl (s : State) : Host.Outcome State Fault Refusal :=
  .next (rdPDCtrl s)

/-- `WR P.D_CTRL` (R207). -/
def execWrPDCtrl (v : Word) (s : State) : Host.Outcome State Fault Refusal :=
  .next (wrPDCtrl v s)

/-- `RD P.D_STAT` (R208). -/
def execRdPDStat (s : State) : Host.Outcome State Fault Refusal :=
  .next (rdPDStat s)

/-- `WR P.D_STAT` (R209). -/
def execWrPDStat (v : Word) (s : State) : Host.Outcome State Fault Refusal :=
  .next (wrPDStat v s)

/-- `RD P.D_PCR` (R210). -/
def execRdPDPcr (s : State) : Host.Outcome State Fault Refusal :=
  .next (rdPDPcr s)

/-- `WR P.D_PCR` (R211). -/
def execWrPDPcr (v : Word) (s : State) : Host.Outcome State Fault Refusal :=
  .next (wrPDPcr v s)

end Sys2Proof.Machine
end

