-- ==== Sys2Proof/Machine/EngineP.lean ====
section
/-! DEFINITION. Engine P: the tag decoder of both families (41_tag_decoder.md) and the transfer state machine
(42_primary_engine.md), one definition per rule. -/

namespace Sys2Proof.Machine

/-! ## The tag decoder (R250 to R268) -/

/-- The outputs of a successful engine P decode (R250), the TAG cache apart (R252). -/
structure TagResult where
  madr  : Word
  tadr  : Word
  qwc   : BitVec 16
  ended : Bool
  deriving DecidableEq, Repr

/-- `nxt = TADR0 + 16`, modulo 2^32 (R251). -/
def nextTag (tadr0 : Word) : Word := tadr0 + 16

/-- The TAG cache, `t[31:16]` (R252). -/
def tagCache (t : Quad) : BitVec 16 := t.extractLsb' 16 16

/-- REFE (R254). -/
def srcRefe (tadr0 : Word) (_tie : Bool) (t : PTag) : TagResult where
  madr := t.addr
  tadr := nextTag tadr0
  qwc := t.qwc
  ended := true

/-- CNT (R255). -/
def srcCnt (tadr0 : Word) (tie : Bool) (t : PTag) : TagResult where
  madr := nextTag tadr0
  tadr := nextTag tadr0 + (t.qwc.setWidth 32 <<< 4)
  qwc := t.qwc
  ended := t.irq && tie

/-- NEXT (R256). -/
def srcNext (tadr0 : Word) (tie : Bool) (t : PTag) : TagResult where
  madr := nextTag tadr0
  tadr := t.addr
  qwc := t.qwc
  ended := t.irq && tie

/-- REF (R257). -/
def srcRef (tadr0 : Word) (tie : Bool) (t : PTag) : TagResult where
  madr := t.addr
  tadr := nextTag tadr0
  qwc := t.qwc
  ended := t.irq && tie

/-- REFS (R258): as REF, stall control being out of scope (R6). -/
def srcRefs (tadr0 : Word) (tie : Bool) (t : PTag) : TagResult where
  madr := t.addr
  tadr := nextTag tadr0
  qwc := t.qwc
  ended := t.irq && tie

/-- END (R261). -/
def srcEnd (tadr0 : Word) (_tie : Bool) (t : PTag) : TagResult where
  madr := nextTag tadr0
  tadr := tadr0
  qwc := t.qwc
  ended := true

/-- Destination CNT (R263, R264). -/
def dstCnt (tadr0 : Word) (tie : Bool) (t : PTag) : TagResult where
  madr := t.addr
  tadr := tadr0
  qwc := t.qwc
  ended := t.irq && tie

/-- Destination CNTS (R265): as CNT, the stall address being out of scope (R6). -/
def dstCnts (tadr0 : Word) (tie : Bool) (t : PTag) : TagResult where
  madr := t.addr
  tadr := tadr0
  qwc := t.qwc
  ended := t.irq && tie

/-- Destination END (R266). -/
def dstEnd (tadr0 : Word) (_tie : Bool) (t : PTag) : TagResult where
  madr := t.addr
  tadr := tadr0
  qwc := t.qwc
  ended := true

/-- `Decode(fam, TADR0, TIE, t)` (R250): none for the variants that R259, R260 and R267 make fatal. -/
def decodeTag (fam : TagFamily) (tadr0 : Word) (tie : Bool) (t : Quad) : Option TagResult :=
  let f := unpackPTag t
  match fam, (tagId t).toFin with
  | .source, 0 => some (srcRefe tadr0 tie f)
  | .source, 1 => some (srcCnt tadr0 tie f)
  | .source, 2 => some (srcNext tadr0 tie f)
  | .source, 3 => some (srcRef tadr0 tie f)
  | .source, 4 => some (srcRefs tadr0 tie f)
  | .source, 5 => none
  | .source, 6 => none
  | .source, 7 => some (srcEnd tadr0 tie f)
  | .destination, 0 => some (dstCnts tadr0 tie f)
  | .destination, 1 => some (dstCnt tadr0 tie f)
  | .destination, 2 => none
  | .destination, 3 => none
  | .destination, 4 => none
  | .destination, 5 => none
  | .destination, 6 => none
  | .destination, 7 => some (dstEnd tadr0 tie f)

/-! ## Fault records of engine P -/

/-- UNMODELLED_TAG: channel, tag[63:0], "tag decode" (R250, R401). -/
def unmodelledTag (c : PChan) (t : Quad) : FaultRecord :=
  { fatalRecord .P .unmodelledTag .tagDecode with channel := some c.val, value := some (.tag (t.extractLsb' 0 64)) }

/-- TTE_UNSUPPORTED: channel, tag[63:0], "tag transfer" (R297, R401). -/
def tteUnsupported (c : PChan) (t : Quad) : FaultRecord :=
  { fatalRecord .P .tteUnsupported .tagTransfer with channel := some c.val, value := some (.tag (t.extractLsb' 0 64)) }

/-- PEER_OVERFLOW of a tag payload: channel, payload, "tag transfer" (R297, R401). -/
def tagOverflow (c : PChan) (v : Payload) : FaultRecord :=
  { fatalRecord .P .peerOverflow .tagTransfer with channel := some c.val, value := some (.payload v) }

/-- PEER_OVERFLOW of a unit: channel, unit, "transfer" (R295, R401). -/
def unitOverflowP (c : PChan) (v : Quad) : FaultRecord :=
  { fatalRecord .P .peerOverflow .transfer with channel := some c.val, value := some (.quad v) }

/-- PEER_UNDERFLOW: channel, and "transfer" or "tag read" (R295, R296, R401). -/
def underflowP (c : PChan) (op : FatalOp) : FaultRecord :=
  { fatalRecord .P .peerUnderflow op with channel := some c.val }

/-- UNMODELLED_MODE: channel, CHCR, "service" (R292, R401). -/
def unmodelledModeP (c : PChan) (chcr : Word) : FaultRecord :=
  { fatalRecord .P .unmodelledMode .service with channel := some c.val, value := some (.register chcr) }

/-! ## The transfer state machine (R290 to R304) -/

/-- CompleteP(c) (R304). -/
def completeP (c : PChan) (s : State) : State :=
  let x := s.pch c
  let s1 := s.setPch c { x with chcr := pClearStr x.chcr, hasTag := false, chainEnded := false }
  reevalP (s1.setEngP { s1.engP with cis := withBit s1.engP.cis c.val })

/-- ZeroSegmentP(c) (R298). -/
def zeroSegmentP (c : PChan) (s : State) : State :=
  if (s.pch c).chainEnded then completeP c s else s.setPch c { s.pch c with hasTag := false }

/-- EndOfUnitP(c) (R300). -/
def endOfUnitP (c : PChan) (s : State) : State :=
  let x := { s.pch c with madr := (s.pch c).madr + 16, qwc := (s.pch c).qwc - 1 }
  let s1 := s.setPch c x
  if x.qwc = 0 then
    if pMode x.chcr = .normal || x.chainEnded then completeP c s1 else s1.setPch c { x with hasTag := false }
  else s1

/-- The unit that channel c takes from its peer, if there is one: the scratchpad's for channels 8 and 9 (R295, R302). -/
def unitFromPeerP (s : State) (c : PChan) : Option Quad :=
  if isSprChan c then some (sprReadP s c) else (answerP s c).unit

/-- The state after that unit is taken. -/
def afterUnitFromPeerP (c : PChan) (s : State) : State :=
  if isSprChan c then afterSprGet c s else afterPopP c s

/-- TransferUnitP(c), memory to peer (R295). -/
def transferToPeerP (c : PChan) (s : State) : SubStep :=
  let a := (s.pch c).madr
  let q := busReadP s a
  let s1 := afterBusReadP a s
  if isSprChan c then .done (endOfUnitP c (sprPut c q s1))
  else if (answerP s1 c).accepts then .done (endOfUnitP c (afterPushP c q s1))
  else .fatal (unitOverflowP c q) (afterPushP c q s1)

/-- TransferUnitP(c), peer to memory (R295). -/
def transferToMemoryP (c : PChan) (s : State) : SubStep :=
  let s1 := afterUnitFromPeerP c s
  match unitFromPeerP s c with
  | none => .fatal (underflowP c .transfer) s1
  | some q => .done (endOfUnitP c (busWriteP (s.pch c).madr q s1))

/-- TransferUnitP(c) (R295). -/
def transferUnitP (c : PChan) (s : State) : SubStep :=
  if pDir (s.pch c).chcr then transferToPeerP c s else transferToMemoryP c s

/-- ForwardTagP(c, t) (R297), then the end of the decode step. On channels 8 and 9, where TTE_FWD has them forward, the
scratchpad port refuses no payload (R114, R302); it keeps none (DESIGN CHOICE, log 26). -/
def forwardTagP (c : PChan) (t : Quad) (done : State → SubStep) (s : State) : SubStep :=
  if !s.cfg.tteFwd[c] then .fatal (tteUnsupported c t) s
  else
    let v := t.extractLsb' 64 64
    if (answerP s c).accepts then done (afterPushTagP c v s) else .fatal (tagOverflow c v) (afterPushTagP c v s)

/-- The last line of DecodeStepP (R296): a segment of count 0 is ended at once. -/
def endDecodeP (c : PChan) (qwc : BitVec 16) (s : State) : SubStep :=
  .done (if qwc = 0 then zeroSegmentP c s else s)

/-- The writes of DecodeStepP after the decode (R252, R296). -/
def writeDecodedP (c : PChan) (t : Quad) (r : TagResult) (s : State) : State :=
  s.setPch c { s.pch c with
    chcr := pSetTag (s.pch c).chcr (tagCache t)
    madr := r.madr
    tadr := r.tadr
    qwc := r.qwc
    chainEnded := r.ended
    hasTag := true }

/-- DecodeStepP(c) once the tag is read (R296): the decode's result written, the payload forwarded, a zero segment
ended; UNMODELLED_TAG where the decode gives none. -/
def commitTagP (fam : TagFamily) (c : PChan) (t : Quad) (res : Option TagResult) (s : State) : SubStep :=
  match res with
  | none => .fatal (unmodelledTag c t) s
  | some r =>
    let s1 := writeDecodedP c t r s
    if fam = .source && pTte (s.pch c).chcr then forwardTagP c t (endDecodeP c r.qwc) s1
    else endDecodeP c r.qwc s1

/-- The tag that DecodeStepP(c) reads, if there is one (R296): from the peer for a channel fed by its peer, which for
channels 8 and 9 is the scratchpad port (R114, R302; of channel 9, DESIGN CHOICE, log 26); from memory at TADR
otherwise. -/
def fetchTagP (s : State) (c : PChan) : Option Quad :=
  if s.cfg.tagFromPeerP[c] then unitFromPeerP s c
  else some (busReadP s (s.pch c).tadr)

/-- The state after that tag is read. -/
def afterFetchTagP (c : PChan) (s : State) : State :=
  if s.cfg.tagFromPeerP[c] then afterUnitFromPeerP c s
  else afterBusReadP (s.pch c).tadr s

/-- The tag family of a channel (R253). -/
def familyP (s : State) (c : PChan) : TagFamily := if s.cfg.tagFromPeerP[c] then .destination else .source

/-- DecodeStepP(c) (R296). -/
def decodeStepP (c : PChan) (s : State) : SubStep :=
  let s1 := afterFetchTagP c s
  match fetchTagP s c with
  | none => .fatal (underflowP c .tagRead) s1
  | some t =>
    commitTagP (familyP s c) c t (decodeTag (familyP s c) (s1.pch c).tadr (pTie (s1.pch c).chcr) t) s1

/-- NormalStepP(c) (R293). -/
def normalStepP (c : PChan) (s : State) : SubStep :=
  if (s.pch c).qwc = 0 then .done (completeP c s) else transferUnitP c s

/-- ChainStepP(c) (R294). -/
def chainStepP (c : PChan) (s : State) : SubStep :=
  if (s.pch c).qwc ≠ 0 then transferUnitP c s
  else if (s.pch c).hasTag && (s.pch c).chainEnded then .done (completeP c s)
  else decodeStepP c s

/-- ServiceChannelP(c) (R292). -/
def serviceChannelP (c : PChan) (s : State) : SubStep :=
  match pMode (s.pch c).chcr with
  | .interleave => .fatal (unmodelledModeP c (s.pch c).chcr) s
  | .reserved => .fatal (unmodelledModeP c (s.pch c).chcr) s
  | .normal => normalStepP c s
  | .chain => chainStepP c s

/-- Channel c has STR = 1 and drq = 1 (R290, R291). -/
def readyP (s : State) (c : PChan) : Bool := pStr (s.pch c).chcr && (s.pch c).drq

/-- The lowest-numbered such channel (R290, R291). -/
def selectP (s : State) : Option PChan := PChan.all.find? (readyP s)

/-- SERVICE_P (R290). -/
def runServiceP (s : State) : State :=
  if halted .P s then s.respond .noStep
  else if !dmae s.engP.dCtrl then s.respond .idle
  else
    match selectP s with
    | none => s.respond .idle
    | some c => settle .P c.val s (serviceChannelP c s)

/-- The rest of a decode invocation on channel c, its tag t read and decoded to `res` (R296): what a tag row of the
opcode table does. A halted engine decodes nothing (R403). -/
def runTagP (fam : TagFamily) (c : PChan) (t : Quad) (res : Option TagResult) (s : State) : State :=
  if halted .P s then s.respond .noStep else settle .P c.val s (commitTagP fam c t res s)

end Sys2Proof.Machine
end

