-- ==== Sys2Proof/Machine/EngineS.lean ====
section
/-! DEFINITION. Engine S: the tag decode (41_tag_decoder.md §4) and the transfer state machine
(43_secondary_engine.md), one definition per rule. -/

namespace Sys2Proof.Machine

/-! ## Fault records of engine S -/

/-- UNMODELLED_CHANNEL: channel, CHCR, "service" (R342, R401). -/
def unmodelledChannel (c : SChan) (chcr : Word) : FaultRecord :=
  { fatalRecord .S .unmodelledChannel .service with channel := some c.val, value := some (.register chcr) }

/-- UNMODELLED_MODE: channel, CHCR, "service" (R343, R401). -/
def unmodelledModeS (c : SChan) (chcr : Word) : FaultRecord :=
  { fatalRecord .S .unmodelledMode .service with channel := some c.val, value := some (.register chcr) }

/-- PEER_OVERFLOW: channel, unit, "transfer" (R350, R401). -/
def unitOverflowS (c : SChan) (v : Word) : FaultRecord :=
  { fatalRecord .S .peerOverflow .transfer with channel := some c.val, value := some (.word v) }

/-- PEER_UNDERFLOW: channel, and "transfer" or "tag read" (R349, R350, R401). -/
def underflowS (c : SChan) (op : FatalOp) : FaultRecord :=
  { fatalRecord .S .peerUnderflow op with channel := some c.val }

/-! ## The transfer state machine -/

/-- A completion of this channel sets its TIP bit: the last tag had its IRQ bit, and the completion is a chain's (R356,
R418), not a slice's, which never sets TIP (R345; log 25). -/
def setsTip (x : SChannel) : Bool := x.tagIrq && sMode x.chcr != .slice

/-- The pending bits that a completion of channel c sets: IP1[c] or IP2[c-7] if its mask bit is set (R356, R418), and TIP[c]
if `tip` says so. -/
def pendS (c : SChan) (tip : Bool) (e : EngineS) : EngineS :=
  { e with
    ip1 := if c.val ≤ 6 ∧ e.im1.getLsbD c.val = true then withBit e.ip1 c.val else e.ip1
    ip2 := if 7 ≤ c.val ∧ e.im2.getLsbD (c.val - 7) = true then withBit e.ip2 (c.val - 7) else e.ip2
    tip := if tip then withBit e.tip c.val else e.tip }

/-- CompleteS(c) (R356). A slice completion sets no TIP bit (R345) and clears the hidden state as R356 has it (log 25). -/
def completeS (c : SChan) (s : State) : State :=
  let x := s.sch c
  let s1 := s.setSch c { x with
    chcr := sClearStr x.chcr
    hasTag := false
    chainEnded := false
    active := false
    remaining := 0
    tagWords := false
    tagBuf := 0
    tagIrq := false }
  reevalS (s1.setEngS (pendS c (setsTip x) s1.engS))

/-- The last lines of TransferWordS(c) (R350): the address and the count, then the end of the segment. -/
def endOfWordS (c : SChan) (s : State) : State :=
  let x := { s.sch c with madr := (s.sch c).madr + 4, remaining := (s.sch c).remaining - 1 }
  let s1 := s.setSch c x
  if x.remaining = 0 then
    if sMode x.chcr = .slice || x.chainEnded then completeS c s1 else s1.setSch c { x with hasTag := false }
  else s1

/-- TransferWordS(c), memory to peer (R350). -/
def transferToPeerS (c : SChan) (s : State) : SubStep :=
  let a := (s.sch c).madr
  let w := busReadS s a
  let s1 := afterBusReadS a s
  if (answerS s1 c).accepts then .done (endOfWordS c (afterPushS c w s1))
  else .fatal (unitOverflowS c w) (afterPushS c w s1)

/-- TransferWordS(c), peer to memory (R350). -/
def transferToMemoryS (c : SChan) (s : State) : SubStep :=
  match (answerS s c).unit with
  | none => .fatal (underflowS c .transfer) (afterPopS c s)
  | some r => .done (endOfWordS c (busWriteS (s.sch c).madr r (afterPopS c s)))

/-- TransferWordS(c) (R350). -/
def transferWordS (c : SChan) (s : State) : SubStep :=
  if sDir (s.sch c).chcr then transferToPeerS c s else transferToMemoryS c s

/-- ActivateSliceS(c) (R346). -/
def activateSliceS (c : SChan) (s : State) : State :=
  s.setSch c { s.sch c with remaining := bcrWords (s.sch c).bcr, active := true }

/-- SliceStepS(c) (R344). -/
def sliceStepS (c : SChan) (s : State) : SubStep :=
  let s1 := if (s.sch c).active then s else activateSliceS c s
  if (s1.sch c).remaining = 0 then .done (completeS c s1) else transferWordS c s1

/-- DecodeS(c, w0, w1) (R275), from the tag's fields. -/
def decodeS (c : SChan) (t : STag) (s : State) : State :=
  s.setSch c { s.sch c with
    madr := t.addr
    remaining := t.count
    chainEnded := t.ert || t.irq
    tagIrq := t.irq
    hasTag := true }

/-- TagStepS(c) once both words are there (R349, R276): a memory-sourced tag moves TADR on by 8, a peer-sourced one
empties the half-tag count; then the decode, and an empty segment is ended at once. -/
def commitTagS (c : SChan) (t : STag) (s : State) : SubStep :=
  let s1 :=
    if s.cfg.tagFromPeerS[c] then s.setSch c { s.sch c with tagWords := false }
    else s.setSch c { s.sch c with tadr := (s.sch c).tadr + 8 }
  let s2 := decodeS c t s1
  .done (if t.count = 0 then
      (if (s2.sch c).chainEnded then completeS c s2 else s2.setSch c { s2.sch c with hasTag := false })
    else s2)

/-- TagStepS(c), memory-sourced: both words in one invocation, word 0 first (R349, R106). -/
def tagFromMemoryS (c : SChan) (s : State) : SubStep :=
  let a := (s.sch c).tadr
  commitTagS c (unpackSTag (busReadS s a) (busReadS s (a + 4))) (afterBusReadS (a + 4) (afterBusReadS a s))

/-- TagStepS(c), peer-sourced: one word per invocation (R349). -/
def tagFromPeerS (c : SChan) (s : State) : SubStep :=
  let s1 := afterPopS c s
  match (answerS s c).unit with
  | none => .fatal (underflowS c .tagRead) s1
  | some r =>
    if (s1.sch c).tagWords then commitTagS c (unpackSTag (s1.sch c).tagBuf r) s1
    else .done (s1.setSch c { s1.sch c with tagBuf := r, tagWords := true })

/-- TagStepS(c) (R349). -/
def tagStepS (c : SChan) (s : State) : SubStep :=
  if s.cfg.tagFromPeerS[c] then tagFromPeerS c s else tagFromMemoryS c s

/-- ChainStepS(c) (R348). -/
def chainStepS (c : SChan) (s : State) : SubStep :=
  if (s.sch c).remaining ≠ 0 then transferWordS c s
  else if (s.sch c).hasTag && (s.sch c).chainEnded then .done (completeS c s)
  else tagStepS c s

/-- ModeCheckS(c) (R343). -/
def modeCheckS (c : SChan) (s : State) : SubStep :=
  if sMas (s.sch c).chcr then .fatal (unmodelledModeS c (s.sch c).chcr) s
  else
    match sMode (s.sch c).chcr with
    | .burst => .fatal (unmodelledModeS c (s.sch c).chcr) s
    | .linkedList => .fatal (unmodelledModeS c (s.sch c).chcr) s
    | .slice => sliceStepS c s
    | .chain => chainStepS c s

/-- ServiceChannelS(c) (R342). -/
def serviceChannelS (c : SChan) (s : State) : SubStep :=
  if !s.cfg.peerPresentS[c] then .fatal (unmodelledChannel c (s.sch c).chcr) s else modeCheckS c s

/-- Channel c has STR = 1, drq = 1 and its enable bit (R340, R341). -/
def readyS (s : State) (c : SChan) : Bool := sStr (s.sch c).chcr && (s.sch c).drq && enableS s.engS c

/-- The lowest-numbered such channel (R340, R341). -/
def selectS (s : State) : Option SChan := SChan.all.find? (readyS s)

/-- SERVICE_S (R340). -/
def runServiceS (s : State) : State :=
  if halted .S s then s.respond .noStep
  else if !sEnable s.engS.dmacen then s.respond .idle
  else
    match selectS s with
    | none => s.respond .idle
    | some c => settle .S c.val s (serviceChannelS c s)

/-- The rest of a tag invocation on channel c, both words of its tag there (R275, R349): what the tag row of the opcode
table does. A halted engine decodes nothing (R403). -/
def runTagS (c : SChan) (t : STag) (s : State) : State :=
  if halted .S s then s.respond .noStep else settle .S c.val s (commitTagS c t s)

end Sys2Proof.Machine
end

