-- ==== Sys2Proof/Machine/Ports.lean ====
section
/-! DEFINITION. The port operations (R180): the services, the request inputs, the resets and CPCOND. -/

namespace Sys2Proof.Machine

/-- SERVICE_P (R290). -/
def execServiceP (s : State) : Host.Outcome State Fault Refusal := .next (runServiceP s)

/-- SERVICE_S (R340). -/
def execServiceS (s : State) : Host.Outcome State Fault Refusal := .next (runServiceS s)

/-- SET_REQUEST(P, c, ready) (R310): accepted on a halted engine too (R403). -/
def execSetRequestP (c : PChan) (ready : Bool) (s : State) : Host.Outcome State Fault Refusal :=
  .next ((s.setPch c { s.pch c with drq := ready }).respond .done)

/-- SET_REQUEST(S, c, ready) (R360). -/
def execSetRequestS (c : SChan) (ready : Bool) (s : State) : Host.Outcome State Fault Refusal :=
  .next ((s.setSch c { s.sch c with drq := ready }).respond .done)

/-- RESET(P) (R460): enabled even when the engine is halted (R403). -/
def execResetP (s : State) : Host.Outcome State Fault Refusal := .next (resetEngineP s)

/-- RESET(S) (R460). -/
def execResetS (s : State) : Host.Outcome State Fault Refusal := .next (resetEngineS s)

/-- CPCOND (R424): a combinational output; a halted engine's is computed from the state kept (R425). -/
def execCpcond (s : State) : Host.Outcome State Fault Refusal := .next (s.respond (.cpcond (cpcondOf s.engP)))

end Sys2Proof.Machine
end

