-- ==== Sys2Proof/Machine/SRegs.lean ====
section
/-! DEFINITION. Software accesses to engine S's registers (40_register_file.md §4, §5): one operation per rule, then one
meaning per row of the opcode table. Address and width are checked by the decoder and Machine/Fetch.lean (R190). -/

namespace Sys2Proof.Machine

/-! ## The rules -/

/-- RD S.MADR (R220). -/
def rdSMadr (c : SChan) (s : State) : State := readReg .S ((s.sch c).madr.setWidth 32) s

/-- WR S.MADR (R221). -/
def wrSMadr (c : SChan) (v : Word) (s : State) : State :=
  writeReg .S (s.setSch c { s.sch c with madr := v.extractLsb' 0 24 }) s

/-- RD S.BCR at byte offset k (R222). -/
def rdSBcr (c : SChan) (k : Nat) (w : AccessWidth) (s : State) : State := readReg .S (bcrRead (s.sch c).bcr k w) s

/-- WR S.BCR at byte offset k (R223). -/
def wrSBcr (c : SChan) (k : Nat) (w : AccessWidth) (v : Word) (s : State) : State :=
  writeReg .S (s.setSch c { s.sch c with bcr := bcrWrite (s.sch c).bcr k w v }) s

/-- RD S.CHCR (R224). -/
def rdSChcr (c : SChan) (s : State) : State := readReg .S (s.sch c).chcr s

/-- WR S.CHCR (R225): every bit is stored; on a start, the hidden state of R52 is cleared. -/
def wrSChcr (c : SChan) (v : Word) (s : State) : State :=
  let x := s.sch c
  let x1 :=
    if !sStr x.chcr && sStr v then
      { x with
        hasTag := false
        chainEnded := false
        active := false
        remaining := 0
        tagWords := false
        tagBuf := 0
        tagIrq := false }
    else x
  writeReg .S (s.setSch c { x1 with chcr := v }) s

/-- RD S.TADR (R226). -/
def rdSTadr (c : SChan) (s : State) : State := readReg .S ((s.sch c).tadr.setWidth 32) s

/-- WR S.TADR (R227). -/
def wrSTadr (c : SChan) (v : Word) (s : State) : State :=
  writeReg .S (s.setSch c { s.sch c with tadr := v.extractLsb' 0 24 }) s

/-- RD S.DPCR (R228). -/
def rdSDpcr (s : State) : State := readReg .S s.engS.dpcr s

/-- WR S.DPCR (R229). -/
def wrSDpcr (v : Word) (s : State) : State := writeReg .S (s.setEngS { s.engS with dpcr := v }) s

/-- RD S.DPCR2 (R230). -/
def rdSDpcr2 (s : State) : State := readReg .S s.engS.dpcr2 s

/-- WR S.DPCR2 (R231). -/
def wrSDpcr2 (v : Word) (s : State) : State := writeReg .S (s.setEngS { s.engS with dpcr2 := v }) s

/-- RD S.DICR (R232). -/
def rdSDicr (s : State) : State := readReg .S (dicrValue s.engS) s

/-- WR S.DICR (R233): BE, IM1 and MIE written directly, write-1-to-clear IP1, re-evaluate. -/
def wrSDicr (v : Word) (s : State) : State :=
  writeReg .S (reevalS (s.setEngS { s.engS with
    be := v.getLsbD 15
    im1 := v.extractLsb' 16 7
    mie := v.getLsbD 23
    ip1 := s.engS.ip1 &&& ~~~(v.extractLsb' 24 7) })) s

/-- RD S.DICR2 (R234). -/
def rdSDicr2 (s : State) : State := readReg .S (dicr2Value s.engS) s

/-- WR S.DICR2 (R235): write-1-to-clear TIP and IP2, IM2 written directly, re-evaluate. -/
def wrSDicr2 (v : Word) (s : State) : State :=
  writeReg .S (reevalS (s.setEngS { s.engS with
    tip := s.engS.tip &&& ~~~(v.extractLsb' 0 13)
    im2 := v.extractLsb' 16 6
    ip2 := s.engS.ip2 &&& ~~~(v.extractLsb' 24 6) })) s

/-- RD S.DMACEN (R236). -/
def rdSDmacen (s : State) : State := readReg .S s.engS.dmacen s

/-- WR S.DMACEN (R237). -/
def wrSDmacen (v : Word) (s : State) : State := writeReg .S (s.setEngS { s.engS with dmacen := v }) s

/-- RD S.DMACINTEN (R238). -/
def rdSDmacinten (s : State) : State := readReg .S s.engS.dmacinten s

/-- WR S.DMACINTEN (R239): no re-evaluation. -/
def wrSDmacinten (v : Word) (s : State) : State := writeReg .S (s.setEngS { s.engS with dmacinten := v }) s

/-! ## The rows of the opcode table -/

/-- `RD S.MADR[0]` (R220). -/
def execRdSMadr_0 (s : State) : Host.Outcome State Fault Refusal :=
  .next (rdSMadr 0 s)

/-- `WR S.MADR[0]` (R221). -/
def execWrSMadr_0 (v : Word) (s : State) : Host.Outcome State Fault Refusal :=
  .next (wrSMadr 0 v s)

/-- `RD S.BCR[0]+0` (R222). -/
def execRdSBcr_0_0 (w : AccessWidth) (s : State) : Host.Outcome State Fault Refusal :=
  .next (rdSBcr 0 0 w s)

/-- `RD S.BCR[0]+1` (R222). -/
def execRdSBcr_0_1 (s : State) : Host.Outcome State Fault Refusal :=
  .next (rdSBcr 0 1 .w8 s)

/-- `RD S.BCR[0]+2` (R222). -/
def execRdSBcr_0_2 (w : LaneWidth) (s : State) : Host.Outcome State Fault Refusal :=
  .next (rdSBcr 0 2 w.toAccess s)

/-- `RD S.BCR[0]+3` (R222). -/
def execRdSBcr_0_3 (s : State) : Host.Outcome State Fault Refusal :=
  .next (rdSBcr 0 3 .w8 s)

/-- `WR S.BCR[0]+0` (R223). -/
def execWrSBcr_0_0 (w : AccessWidth) (v : Word) (s : State) : Host.Outcome State Fault Refusal :=
  .next (wrSBcr 0 0 w v s)

/-- `WR S.BCR[0]+1` (R223). -/
def execWrSBcr_0_1 (v : Byte) (s : State) : Host.Outcome State Fault Refusal :=
  .next (wrSBcr 0 1 .w8 (v.setWidth 32) s)

/-- `WR S.BCR[0]+2` (R223). -/
def execWrSBcr_0_2 (w : LaneWidth) (v : BitVec 16) (s : State) : Host.Outcome State Fault Refusal :=
  .next (wrSBcr 0 2 w.toAccess (v.setWidth 32) s)

/-- `WR S.BCR[0]+3` (R223). -/
def execWrSBcr_0_3 (v : Byte) (s : State) : Host.Outcome State Fault Refusal :=
  .next (wrSBcr 0 3 .w8 (v.setWidth 32) s)

/-- `RD S.CHCR[0]` (R224). -/
def execRdSChcr_0 (s : State) : Host.Outcome State Fault Refusal :=
  .next (rdSChcr 0 s)

/-- `WR S.CHCR[0]` (R225). -/
def execWrSChcr_0 (v : Word) (s : State) : Host.Outcome State Fault Refusal :=
  .next (wrSChcr 0 v s)

/-- `RD S.TADR[0]` (R226). -/
def execRdSTadr_0 (s : State) : Host.Outcome State Fault Refusal :=
  .next (rdSTadr 0 s)

/-- `WR S.TADR[0]` (R227). -/
def execWrSTadr_0 (v : Word) (s : State) : Host.Outcome State Fault Refusal :=
  .next (wrSTadr 0 v s)

/-- `RD S.MADR[1]` (R220). -/
def execRdSMadr_1 (s : State) : Host.Outcome State Fault Refusal :=
  .next (rdSMadr 1 s)

/-- `WR S.MADR[1]` (R221). -/
def execWrSMadr_1 (v : Word) (s : State) : Host.Outcome State Fault Refusal :=
  .next (wrSMadr 1 v s)

/-- `RD S.BCR[1]+0` (R222). -/
def execRdSBcr_1_0 (w : AccessWidth) (s : State) : Host.Outcome State Fault Refusal :=
  .next (rdSBcr 1 0 w s)

/-- `RD S.BCR[1]+1` (R222). -/
def execRdSBcr_1_1 (s : State) : Host.Outcome State Fault Refusal :=
  .next (rdSBcr 1 1 .w8 s)

/-- `RD S.BCR[1]+2` (R222). -/
def execRdSBcr_1_2 (w : LaneWidth) (s : State) : Host.Outcome State Fault Refusal :=
  .next (rdSBcr 1 2 w.toAccess s)

/-- `RD S.BCR[1]+3` (R222). -/
def execRdSBcr_1_3 (s : State) : Host.Outcome State Fault Refusal :=
  .next (rdSBcr 1 3 .w8 s)

/-- `WR S.BCR[1]+0` (R223). -/
def execWrSBcr_1_0 (w : AccessWidth) (v : Word) (s : State) : Host.Outcome State Fault Refusal :=
  .next (wrSBcr 1 0 w v s)

/-- `WR S.BCR[1]+1` (R223). -/
def execWrSBcr_1_1 (v : Byte) (s : State) : Host.Outcome State Fault Refusal :=
  .next (wrSBcr 1 1 .w8 (v.setWidth 32) s)

/-- `WR S.BCR[1]+2` (R223). -/
def execWrSBcr_1_2 (w : LaneWidth) (v : BitVec 16) (s : State) : Host.Outcome State Fault Refusal :=
  .next (wrSBcr 1 2 w.toAccess (v.setWidth 32) s)

/-- `WR S.BCR[1]+3` (R223). -/
def execWrSBcr_1_3 (v : Byte) (s : State) : Host.Outcome State Fault Refusal :=
  .next (wrSBcr 1 3 .w8 (v.setWidth 32) s)

/-- `RD S.CHCR[1]` (R224). -/
def execRdSChcr_1 (s : State) : Host.Outcome State Fault Refusal :=
  .next (rdSChcr 1 s)

/-- `WR S.CHCR[1]` (R225). -/
def execWrSChcr_1 (v : Word) (s : State) : Host.Outcome State Fault Refusal :=
  .next (wrSChcr 1 v s)

/-- `RD S.TADR[1]` (R226). -/
def execRdSTadr_1 (s : State) : Host.Outcome State Fault Refusal :=
  .next (rdSTadr 1 s)

/-- `WR S.TADR[1]` (R227). -/
def execWrSTadr_1 (v : Word) (s : State) : Host.Outcome State Fault Refusal :=
  .next (wrSTadr 1 v s)

/-- `RD S.MADR[2]` (R220). -/
def execRdSMadr_2 (s : State) : Host.Outcome State Fault Refusal :=
  .next (rdSMadr 2 s)

/-- `WR S.MADR[2]` (R221). -/
def execWrSMadr_2 (v : Word) (s : State) : Host.Outcome State Fault Refusal :=
  .next (wrSMadr 2 v s)

/-- `RD S.BCR[2]+0` (R222). -/
def execRdSBcr_2_0 (w : AccessWidth) (s : State) : Host.Outcome State Fault Refusal :=
  .next (rdSBcr 2 0 w s)

/-- `RD S.BCR[2]+1` (R222). -/
def execRdSBcr_2_1 (s : State) : Host.Outcome State Fault Refusal :=
  .next (rdSBcr 2 1 .w8 s)

/-- `RD S.BCR[2]+2` (R222). -/
def execRdSBcr_2_2 (w : LaneWidth) (s : State) : Host.Outcome State Fault Refusal :=
  .next (rdSBcr 2 2 w.toAccess s)

/-- `RD S.BCR[2]+3` (R222). -/
def execRdSBcr_2_3 (s : State) : Host.Outcome State Fault Refusal :=
  .next (rdSBcr 2 3 .w8 s)

/-- `WR S.BCR[2]+0` (R223). -/
def execWrSBcr_2_0 (w : AccessWidth) (v : Word) (s : State) : Host.Outcome State Fault Refusal :=
  .next (wrSBcr 2 0 w v s)

/-- `WR S.BCR[2]+1` (R223). -/
def execWrSBcr_2_1 (v : Byte) (s : State) : Host.Outcome State Fault Refusal :=
  .next (wrSBcr 2 1 .w8 (v.setWidth 32) s)

/-- `WR S.BCR[2]+2` (R223). -/
def execWrSBcr_2_2 (w : LaneWidth) (v : BitVec 16) (s : State) : Host.Outcome State Fault Refusal :=
  .next (wrSBcr 2 2 w.toAccess (v.setWidth 32) s)

/-- `WR S.BCR[2]+3` (R223). -/
def execWrSBcr_2_3 (v : Byte) (s : State) : Host.Outcome State Fault Refusal :=
  .next (wrSBcr 2 3 .w8 (v.setWidth 32) s)

/-- `RD S.CHCR[2]` (R224). -/
def execRdSChcr_2 (s : State) : Host.Outcome State Fault Refusal :=
  .next (rdSChcr 2 s)

/-- `WR S.CHCR[2]` (R225). -/
def execWrSChcr_2 (v : Word) (s : State) : Host.Outcome State Fault Refusal :=
  .next (wrSChcr 2 v s)

/-- `RD S.TADR[2]` (R226). -/
def execRdSTadr_2 (s : State) : Host.Outcome State Fault Refusal :=
  .next (rdSTadr 2 s)

/-- `WR S.TADR[2]` (R227). -/
def execWrSTadr_2 (v : Word) (s : State) : Host.Outcome State Fault Refusal :=
  .next (wrSTadr 2 v s)

/-- `RD S.MADR[3]` (R220). -/
def execRdSMadr_3 (s : State) : Host.Outcome State Fault Refusal :=
  .next (rdSMadr 3 s)

/-- `WR S.MADR[3]` (R221). -/
def execWrSMadr_3 (v : Word) (s : State) : Host.Outcome State Fault Refusal :=
  .next (wrSMadr 3 v s)

/-- `RD S.BCR[3]+0` (R222). -/
def execRdSBcr_3_0 (w : AccessWidth) (s : State) : Host.Outcome State Fault Refusal :=
  .next (rdSBcr 3 0 w s)

/-- `RD S.BCR[3]+1` (R222). -/
def execRdSBcr_3_1 (s : State) : Host.Outcome State Fault Refusal :=
  .next (rdSBcr 3 1 .w8 s)

/-- `RD S.BCR[3]+2` (R222). -/
def execRdSBcr_3_2 (w : LaneWidth) (s : State) : Host.Outcome State Fault Refusal :=
  .next (rdSBcr 3 2 w.toAccess s)

/-- `RD S.BCR[3]+3` (R222). -/
def execRdSBcr_3_3 (s : State) : Host.Outcome State Fault Refusal :=
  .next (rdSBcr 3 3 .w8 s)

/-- `WR S.BCR[3]+0` (R223). -/
def execWrSBcr_3_0 (w : AccessWidth) (v : Word) (s : State) : Host.Outcome State Fault Refusal :=
  .next (wrSBcr 3 0 w v s)

/-- `WR S.BCR[3]+1` (R223). -/
def execWrSBcr_3_1 (v : Byte) (s : State) : Host.Outcome State Fault Refusal :=
  .next (wrSBcr 3 1 .w8 (v.setWidth 32) s)

/-- `WR S.BCR[3]+2` (R223). -/
def execWrSBcr_3_2 (w : LaneWidth) (v : BitVec 16) (s : State) : Host.Outcome State Fault Refusal :=
  .next (wrSBcr 3 2 w.toAccess (v.setWidth 32) s)

/-- `WR S.BCR[3]+3` (R223). -/
def execWrSBcr_3_3 (v : Byte) (s : State) : Host.Outcome State Fault Refusal :=
  .next (wrSBcr 3 3 .w8 (v.setWidth 32) s)

/-- `RD S.CHCR[3]` (R224). -/
def execRdSChcr_3 (s : State) : Host.Outcome State Fault Refusal :=
  .next (rdSChcr 3 s)

/-- `WR S.CHCR[3]` (R225). -/
def execWrSChcr_3 (v : Word) (s : State) : Host.Outcome State Fault Refusal :=
  .next (wrSChcr 3 v s)

/-- `RD S.TADR[3]` (R226). -/
def execRdSTadr_3 (s : State) : Host.Outcome State Fault Refusal :=
  .next (rdSTadr 3 s)

/-- `WR S.TADR[3]` (R227). -/
def execWrSTadr_3 (v : Word) (s : State) : Host.Outcome State Fault Refusal :=
  .next (wrSTadr 3 v s)

/-- `RD S.MADR[4]` (R220). -/
def execRdSMadr_4 (s : State) : Host.Outcome State Fault Refusal :=
  .next (rdSMadr 4 s)

/-- `WR S.MADR[4]` (R221). -/
def execWrSMadr_4 (v : Word) (s : State) : Host.Outcome State Fault Refusal :=
  .next (wrSMadr 4 v s)

/-- `RD S.BCR[4]+0` (R222). -/
def execRdSBcr_4_0 (w : AccessWidth) (s : State) : Host.Outcome State Fault Refusal :=
  .next (rdSBcr 4 0 w s)

/-- `RD S.BCR[4]+1` (R222). -/
def execRdSBcr_4_1 (s : State) : Host.Outcome State Fault Refusal :=
  .next (rdSBcr 4 1 .w8 s)

/-- `RD S.BCR[4]+2` (R222). -/
def execRdSBcr_4_2 (w : LaneWidth) (s : State) : Host.Outcome State Fault Refusal :=
  .next (rdSBcr 4 2 w.toAccess s)

/-- `RD S.BCR[4]+3` (R222). -/
def execRdSBcr_4_3 (s : State) : Host.Outcome State Fault Refusal :=
  .next (rdSBcr 4 3 .w8 s)

/-- `WR S.BCR[4]+0` (R223). -/
def execWrSBcr_4_0 (w : AccessWidth) (v : Word) (s : State) : Host.Outcome State Fault Refusal :=
  .next (wrSBcr 4 0 w v s)

/-- `WR S.BCR[4]+1` (R223). -/
def execWrSBcr_4_1 (v : Byte) (s : State) : Host.Outcome State Fault Refusal :=
  .next (wrSBcr 4 1 .w8 (v.setWidth 32) s)

/-- `WR S.BCR[4]+2` (R223). -/
def execWrSBcr_4_2 (w : LaneWidth) (v : BitVec 16) (s : State) : Host.Outcome State Fault Refusal :=
  .next (wrSBcr 4 2 w.toAccess (v.setWidth 32) s)

/-- `WR S.BCR[4]+3` (R223). -/
def execWrSBcr_4_3 (v : Byte) (s : State) : Host.Outcome State Fault Refusal :=
  .next (wrSBcr 4 3 .w8 (v.setWidth 32) s)

/-- `RD S.CHCR[4]` (R224). -/
def execRdSChcr_4 (s : State) : Host.Outcome State Fault Refusal :=
  .next (rdSChcr 4 s)

/-- `WR S.CHCR[4]` (R225). -/
def execWrSChcr_4 (v : Word) (s : State) : Host.Outcome State Fault Refusal :=
  .next (wrSChcr 4 v s)

/-- `RD S.TADR[4]` (R226). -/
def execRdSTadr_4 (s : State) : Host.Outcome State Fault Refusal :=
  .next (rdSTadr 4 s)

/-- `WR S.TADR[4]` (R227). -/
def execWrSTadr_4 (v : Word) (s : State) : Host.Outcome State Fault Refusal :=
  .next (wrSTadr 4 v s)

/-- `RD S.MADR[5]` (R220). -/
def execRdSMadr_5 (s : State) : Host.Outcome State Fault Refusal :=
  .next (rdSMadr 5 s)

/-- `WR S.MADR[5]` (R221). -/
def execWrSMadr_5 (v : Word) (s : State) : Host.Outcome State Fault Refusal :=
  .next (wrSMadr 5 v s)

/-- `RD S.BCR[5]+0` (R222). -/
def execRdSBcr_5_0 (w : AccessWidth) (s : State) : Host.Outcome State Fault Refusal :=
  .next (rdSBcr 5 0 w s)

/-- `RD S.BCR[5]+1` (R222). -/
def execRdSBcr_5_1 (s : State) : Host.Outcome State Fault Refusal :=
  .next (rdSBcr 5 1 .w8 s)

/-- `RD S.BCR[5]+2` (R222). -/
def execRdSBcr_5_2 (w : LaneWidth) (s : State) : Host.Outcome State Fault Refusal :=
  .next (rdSBcr 5 2 w.toAccess s)

/-- `RD S.BCR[5]+3` (R222). -/
def execRdSBcr_5_3 (s : State) : Host.Outcome State Fault Refusal :=
  .next (rdSBcr 5 3 .w8 s)

/-- `WR S.BCR[5]+0` (R223). -/
def execWrSBcr_5_0 (w : AccessWidth) (v : Word) (s : State) : Host.Outcome State Fault Refusal :=
  .next (wrSBcr 5 0 w v s)

/-- `WR S.BCR[5]+1` (R223). -/
def execWrSBcr_5_1 (v : Byte) (s : State) : Host.Outcome State Fault Refusal :=
  .next (wrSBcr 5 1 .w8 (v.setWidth 32) s)

/-- `WR S.BCR[5]+2` (R223). -/
def execWrSBcr_5_2 (w : LaneWidth) (v : BitVec 16) (s : State) : Host.Outcome State Fault Refusal :=
  .next (wrSBcr 5 2 w.toAccess (v.setWidth 32) s)

/-- `WR S.BCR[5]+3` (R223). -/
def execWrSBcr_5_3 (v : Byte) (s : State) : Host.Outcome State Fault Refusal :=
  .next (wrSBcr 5 3 .w8 (v.setWidth 32) s)

/-- `RD S.CHCR[5]` (R224). -/
def execRdSChcr_5 (s : State) : Host.Outcome State Fault Refusal :=
  .next (rdSChcr 5 s)

/-- `WR S.CHCR[5]` (R225). -/
def execWrSChcr_5 (v : Word) (s : State) : Host.Outcome State Fault Refusal :=
  .next (wrSChcr 5 v s)

/-- `RD S.TADR[5]` (R226). -/
def execRdSTadr_5 (s : State) : Host.Outcome State Fault Refusal :=
  .next (rdSTadr 5 s)

/-- `WR S.TADR[5]` (R227). -/
def execWrSTadr_5 (v : Word) (s : State) : Host.Outcome State Fault Refusal :=
  .next (wrSTadr 5 v s)

/-- `RD S.MADR[6]` (R220). -/
def execRdSMadr_6 (s : State) : Host.Outcome State Fault Refusal :=
  .next (rdSMadr 6 s)

/-- `WR S.MADR[6]` (R221). -/
def execWrSMadr_6 (v : Word) (s : State) : Host.Outcome State Fault Refusal :=
  .next (wrSMadr 6 v s)

/-- `RD S.BCR[6]+0` (R222). -/
def execRdSBcr_6_0 (w : AccessWidth) (s : State) : Host.Outcome State Fault Refusal :=
  .next (rdSBcr 6 0 w s)

/-- `RD S.BCR[6]+1` (R222). -/
def execRdSBcr_6_1 (s : State) : Host.Outcome State Fault Refusal :=
  .next (rdSBcr 6 1 .w8 s)

/-- `RD S.BCR[6]+2` (R222). -/
def execRdSBcr_6_2 (w : LaneWidth) (s : State) : Host.Outcome State Fault Refusal :=
  .next (rdSBcr 6 2 w.toAccess s)

/-- `RD S.BCR[6]+3` (R222). -/
def execRdSBcr_6_3 (s : State) : Host.Outcome State Fault Refusal :=
  .next (rdSBcr 6 3 .w8 s)

/-- `WR S.BCR[6]+0` (R223). -/
def execWrSBcr_6_0 (w : AccessWidth) (v : Word) (s : State) : Host.Outcome State Fault Refusal :=
  .next (wrSBcr 6 0 w v s)

/-- `WR S.BCR[6]+1` (R223). -/
def execWrSBcr_6_1 (v : Byte) (s : State) : Host.Outcome State Fault Refusal :=
  .next (wrSBcr 6 1 .w8 (v.setWidth 32) s)

/-- `WR S.BCR[6]+2` (R223). -/
def execWrSBcr_6_2 (w : LaneWidth) (v : BitVec 16) (s : State) : Host.Outcome State Fault Refusal :=
  .next (wrSBcr 6 2 w.toAccess (v.setWidth 32) s)

/-- `WR S.BCR[6]+3` (R223). -/
def execWrSBcr_6_3 (v : Byte) (s : State) : Host.Outcome State Fault Refusal :=
  .next (wrSBcr 6 3 .w8 (v.setWidth 32) s)

/-- `RD S.CHCR[6]` (R224). -/
def execRdSChcr_6 (s : State) : Host.Outcome State Fault Refusal :=
  .next (rdSChcr 6 s)

/-- `WR S.CHCR[6]` (R225). -/
def execWrSChcr_6 (v : Word) (s : State) : Host.Outcome State Fault Refusal :=
  .next (wrSChcr 6 v s)

/-- `RD S.TADR[6]` (R226). -/
def execRdSTadr_6 (s : State) : Host.Outcome State Fault Refusal :=
  .next (rdSTadr 6 s)

/-- `WR S.TADR[6]` (R227). -/
def execWrSTadr_6 (v : Word) (s : State) : Host.Outcome State Fault Refusal :=
  .next (wrSTadr 6 v s)

/-- `RD S.MADR[7]` (R220). -/
def execRdSMadr_7 (s : State) : Host.Outcome State Fault Refusal :=
  .next (rdSMadr 7 s)

/-- `WR S.MADR[7]` (R221). -/
def execWrSMadr_7 (v : Word) (s : State) : Host.Outcome State Fault Refusal :=
  .next (wrSMadr 7 v s)

/-- `RD S.BCR[7]+0` (R222). -/
def execRdSBcr_7_0 (w : AccessWidth) (s : State) : Host.Outcome State Fault Refusal :=
  .next (rdSBcr 7 0 w s)

/-- `RD S.BCR[7]+1` (R222). -/
def execRdSBcr_7_1 (s : State) : Host.Outcome State Fault Refusal :=
  .next (rdSBcr 7 1 .w8 s)

/-- `RD S.BCR[7]+2` (R222). -/
def execRdSBcr_7_2 (w : LaneWidth) (s : State) : Host.Outcome State Fault Refusal :=
  .next (rdSBcr 7 2 w.toAccess s)

/-- `RD S.BCR[7]+3` (R222). -/
def execRdSBcr_7_3 (s : State) : Host.Outcome State Fault Refusal :=
  .next (rdSBcr 7 3 .w8 s)

/-- `WR S.BCR[7]+0` (R223). -/
def execWrSBcr_7_0 (w : AccessWidth) (v : Word) (s : State) : Host.Outcome State Fault Refusal :=
  .next (wrSBcr 7 0 w v s)

/-- `WR S.BCR[7]+1` (R223). -/
def execWrSBcr_7_1 (v : Byte) (s : State) : Host.Outcome State Fault Refusal :=
  .next (wrSBcr 7 1 .w8 (v.setWidth 32) s)

/-- `WR S.BCR[7]+2` (R223). -/
def execWrSBcr_7_2 (w : LaneWidth) (v : BitVec 16) (s : State) : Host.Outcome State Fault Refusal :=
  .next (wrSBcr 7 2 w.toAccess (v.setWidth 32) s)

/-- `WR S.BCR[7]+3` (R223). -/
def execWrSBcr_7_3 (v : Byte) (s : State) : Host.Outcome State Fault Refusal :=
  .next (wrSBcr 7 3 .w8 (v.setWidth 32) s)

/-- `RD S.CHCR[7]` (R224). -/
def execRdSChcr_7 (s : State) : Host.Outcome State Fault Refusal :=
  .next (rdSChcr 7 s)

/-- `WR S.CHCR[7]` (R225). -/
def execWrSChcr_7 (v : Word) (s : State) : Host.Outcome State Fault Refusal :=
  .next (wrSChcr 7 v s)

/-- `RD S.TADR[7]` (R226). -/
def execRdSTadr_7 (s : State) : Host.Outcome State Fault Refusal :=
  .next (rdSTadr 7 s)

/-- `WR S.TADR[7]` (R227). -/
def execWrSTadr_7 (v : Word) (s : State) : Host.Outcome State Fault Refusal :=
  .next (wrSTadr 7 v s)

/-- `RD S.MADR[8]` (R220). -/
def execRdSMadr_8 (s : State) : Host.Outcome State Fault Refusal :=
  .next (rdSMadr 8 s)

/-- `WR S.MADR[8]` (R221). -/
def execWrSMadr_8 (v : Word) (s : State) : Host.Outcome State Fault Refusal :=
  .next (wrSMadr 8 v s)

/-- `RD S.BCR[8]+0` (R222). -/
def execRdSBcr_8_0 (w : AccessWidth) (s : State) : Host.Outcome State Fault Refusal :=
  .next (rdSBcr 8 0 w s)

/-- `RD S.BCR[8]+1` (R222). -/
def execRdSBcr_8_1 (s : State) : Host.Outcome State Fault Refusal :=
  .next (rdSBcr 8 1 .w8 s)

/-- `RD S.BCR[8]+2` (R222). -/
def execRdSBcr_8_2 (w : LaneWidth) (s : State) : Host.Outcome State Fault Refusal :=
  .next (rdSBcr 8 2 w.toAccess s)

/-- `RD S.BCR[8]+3` (R222). -/
def execRdSBcr_8_3 (s : State) : Host.Outcome State Fault Refusal :=
  .next (rdSBcr 8 3 .w8 s)

/-- `WR S.BCR[8]+0` (R223). -/
def execWrSBcr_8_0 (w : AccessWidth) (v : Word) (s : State) : Host.Outcome State Fault Refusal :=
  .next (wrSBcr 8 0 w v s)

/-- `WR S.BCR[8]+1` (R223). -/
def execWrSBcr_8_1 (v : Byte) (s : State) : Host.Outcome State Fault Refusal :=
  .next (wrSBcr 8 1 .w8 (v.setWidth 32) s)

/-- `WR S.BCR[8]+2` (R223). -/
def execWrSBcr_8_2 (w : LaneWidth) (v : BitVec 16) (s : State) : Host.Outcome State Fault Refusal :=
  .next (wrSBcr 8 2 w.toAccess (v.setWidth 32) s)

/-- `WR S.BCR[8]+3` (R223). -/
def execWrSBcr_8_3 (v : Byte) (s : State) : Host.Outcome State Fault Refusal :=
  .next (wrSBcr 8 3 .w8 (v.setWidth 32) s)

/-- `RD S.CHCR[8]` (R224). -/
def execRdSChcr_8 (s : State) : Host.Outcome State Fault Refusal :=
  .next (rdSChcr 8 s)

/-- `WR S.CHCR[8]` (R225). -/
def execWrSChcr_8 (v : Word) (s : State) : Host.Outcome State Fault Refusal :=
  .next (wrSChcr 8 v s)

/-- `RD S.TADR[8]` (R226). -/
def execRdSTadr_8 (s : State) : Host.Outcome State Fault Refusal :=
  .next (rdSTadr 8 s)

/-- `WR S.TADR[8]` (R227). -/
def execWrSTadr_8 (v : Word) (s : State) : Host.Outcome State Fault Refusal :=
  .next (wrSTadr 8 v s)

/-- `RD S.MADR[9]` (R220). -/
def execRdSMadr_9 (s : State) : Host.Outcome State Fault Refusal :=
  .next (rdSMadr 9 s)

/-- `WR S.MADR[9]` (R221). -/
def execWrSMadr_9 (v : Word) (s : State) : Host.Outcome State Fault Refusal :=
  .next (wrSMadr 9 v s)

/-- `RD S.BCR[9]+0` (R222). -/
def execRdSBcr_9_0 (w : AccessWidth) (s : State) : Host.Outcome State Fault Refusal :=
  .next (rdSBcr 9 0 w s)

/-- `RD S.BCR[9]+1` (R222). -/
def execRdSBcr_9_1 (s : State) : Host.Outcome State Fault Refusal :=
  .next (rdSBcr 9 1 .w8 s)

/-- `RD S.BCR[9]+2` (R222). -/
def execRdSBcr_9_2 (w : LaneWidth) (s : State) : Host.Outcome State Fault Refusal :=
  .next (rdSBcr 9 2 w.toAccess s)

/-- `RD S.BCR[9]+3` (R222). -/
def execRdSBcr_9_3 (s : State) : Host.Outcome State Fault Refusal :=
  .next (rdSBcr 9 3 .w8 s)

/-- `WR S.BCR[9]+0` (R223). -/
def execWrSBcr_9_0 (w : AccessWidth) (v : Word) (s : State) : Host.Outcome State Fault Refusal :=
  .next (wrSBcr 9 0 w v s)

/-- `WR S.BCR[9]+1` (R223). -/
def execWrSBcr_9_1 (v : Byte) (s : State) : Host.Outcome State Fault Refusal :=
  .next (wrSBcr 9 1 .w8 (v.setWidth 32) s)

/-- `WR S.BCR[9]+2` (R223). -/
def execWrSBcr_9_2 (w : LaneWidth) (v : BitVec 16) (s : State) : Host.Outcome State Fault Refusal :=
  .next (wrSBcr 9 2 w.toAccess (v.setWidth 32) s)

/-- `WR S.BCR[9]+3` (R223). -/
def execWrSBcr_9_3 (v : Byte) (s : State) : Host.Outcome State Fault Refusal :=
  .next (wrSBcr 9 3 .w8 (v.setWidth 32) s)

/-- `RD S.CHCR[9]` (R224). -/
def execRdSChcr_9 (s : State) : Host.Outcome State Fault Refusal :=
  .next (rdSChcr 9 s)

/-- `WR S.CHCR[9]` (R225). -/
def execWrSChcr_9 (v : Word) (s : State) : Host.Outcome State Fault Refusal :=
  .next (wrSChcr 9 v s)

/-- `RD S.TADR[9]` (R226). -/
def execRdSTadr_9 (s : State) : Host.Outcome State Fault Refusal :=
  .next (rdSTadr 9 s)

/-- `WR S.TADR[9]` (R227). -/
def execWrSTadr_9 (v : Word) (s : State) : Host.Outcome State Fault Refusal :=
  .next (wrSTadr 9 v s)

/-- `RD S.MADR[10]` (R220). -/
def execRdSMadr_10 (s : State) : Host.Outcome State Fault Refusal :=
  .next (rdSMadr 10 s)

/-- `WR S.MADR[10]` (R221). -/
def execWrSMadr_10 (v : Word) (s : State) : Host.Outcome State Fault Refusal :=
  .next (wrSMadr 10 v s)

/-- `RD S.BCR[10]+0` (R222). -/
def execRdSBcr_10_0 (w : AccessWidth) (s : State) : Host.Outcome State Fault Refusal :=
  .next (rdSBcr 10 0 w s)

/-- `RD S.BCR[10]+1` (R222). -/
def execRdSBcr_10_1 (s : State) : Host.Outcome State Fault Refusal :=
  .next (rdSBcr 10 1 .w8 s)

/-- `RD S.BCR[10]+2` (R222). -/
def execRdSBcr_10_2 (w : LaneWidth) (s : State) : Host.Outcome State Fault Refusal :=
  .next (rdSBcr 10 2 w.toAccess s)

/-- `RD S.BCR[10]+3` (R222). -/
def execRdSBcr_10_3 (s : State) : Host.Outcome State Fault Refusal :=
  .next (rdSBcr 10 3 .w8 s)

/-- `WR S.BCR[10]+0` (R223). -/
def execWrSBcr_10_0 (w : AccessWidth) (v : Word) (s : State) : Host.Outcome State Fault Refusal :=
  .next (wrSBcr 10 0 w v s)

/-- `WR S.BCR[10]+1` (R223). -/
def execWrSBcr_10_1 (v : Byte) (s : State) : Host.Outcome State Fault Refusal :=
  .next (wrSBcr 10 1 .w8 (v.setWidth 32) s)

/-- `WR S.BCR[10]+2` (R223). -/
def execWrSBcr_10_2 (w : LaneWidth) (v : BitVec 16) (s : State) : Host.Outcome State Fault Refusal :=
  .next (wrSBcr 10 2 w.toAccess (v.setWidth 32) s)

/-- `WR S.BCR[10]+3` (R223). -/
def execWrSBcr_10_3 (v : Byte) (s : State) : Host.Outcome State Fault Refusal :=
  .next (wrSBcr 10 3 .w8 (v.setWidth 32) s)

/-- `RD S.CHCR[10]` (R224). -/
def execRdSChcr_10 (s : State) : Host.Outcome State Fault Refusal :=
  .next (rdSChcr 10 s)

/-- `WR S.CHCR[10]` (R225). -/
def execWrSChcr_10 (v : Word) (s : State) : Host.Outcome State Fault Refusal :=
  .next (wrSChcr 10 v s)

/-- `RD S.TADR[10]` (R226). -/
def execRdSTadr_10 (s : State) : Host.Outcome State Fault Refusal :=
  .next (rdSTadr 10 s)

/-- `WR S.TADR[10]` (R227). -/
def execWrSTadr_10 (v : Word) (s : State) : Host.Outcome State Fault Refusal :=
  .next (wrSTadr 10 v s)

/-- `RD S.MADR[11]` (R220). -/
def execRdSMadr_11 (s : State) : Host.Outcome State Fault Refusal :=
  .next (rdSMadr 11 s)

/-- `WR S.MADR[11]` (R221). -/
def execWrSMadr_11 (v : Word) (s : State) : Host.Outcome State Fault Refusal :=
  .next (wrSMadr 11 v s)

/-- `RD S.BCR[11]+0` (R222). -/
def execRdSBcr_11_0 (w : AccessWidth) (s : State) : Host.Outcome State Fault Refusal :=
  .next (rdSBcr 11 0 w s)

/-- `RD S.BCR[11]+1` (R222). -/
def execRdSBcr_11_1 (s : State) : Host.Outcome State Fault Refusal :=
  .next (rdSBcr 11 1 .w8 s)

/-- `RD S.BCR[11]+2` (R222). -/
def execRdSBcr_11_2 (w : LaneWidth) (s : State) : Host.Outcome State Fault Refusal :=
  .next (rdSBcr 11 2 w.toAccess s)

/-- `RD S.BCR[11]+3` (R222). -/
def execRdSBcr_11_3 (s : State) : Host.Outcome State Fault Refusal :=
  .next (rdSBcr 11 3 .w8 s)

/-- `WR S.BCR[11]+0` (R223). -/
def execWrSBcr_11_0 (w : AccessWidth) (v : Word) (s : State) : Host.Outcome State Fault Refusal :=
  .next (wrSBcr 11 0 w v s)

/-- `WR S.BCR[11]+1` (R223). -/
def execWrSBcr_11_1 (v : Byte) (s : State) : Host.Outcome State Fault Refusal :=
  .next (wrSBcr 11 1 .w8 (v.setWidth 32) s)

/-- `WR S.BCR[11]+2` (R223). -/
def execWrSBcr_11_2 (w : LaneWidth) (v : BitVec 16) (s : State) : Host.Outcome State Fault Refusal :=
  .next (wrSBcr 11 2 w.toAccess (v.setWidth 32) s)

/-- `WR S.BCR[11]+3` (R223). -/
def execWrSBcr_11_3 (v : Byte) (s : State) : Host.Outcome State Fault Refusal :=
  .next (wrSBcr 11 3 .w8 (v.setWidth 32) s)

/-- `RD S.CHCR[11]` (R224). -/
def execRdSChcr_11 (s : State) : Host.Outcome State Fault Refusal :=
  .next (rdSChcr 11 s)

/-- `WR S.CHCR[11]` (R225). -/
def execWrSChcr_11 (v : Word) (s : State) : Host.Outcome State Fault Refusal :=
  .next (wrSChcr 11 v s)

/-- `RD S.TADR[11]` (R226). -/
def execRdSTadr_11 (s : State) : Host.Outcome State Fault Refusal :=
  .next (rdSTadr 11 s)

/-- `WR S.TADR[11]` (R227). -/
def execWrSTadr_11 (v : Word) (s : State) : Host.Outcome State Fault Refusal :=
  .next (wrSTadr 11 v s)

/-- `RD S.MADR[12]` (R220). -/
def execRdSMadr_12 (s : State) : Host.Outcome State Fault Refusal :=
  .next (rdSMadr 12 s)

/-- `WR S.MADR[12]` (R221). -/
def execWrSMadr_12 (v : Word) (s : State) : Host.Outcome State Fault Refusal :=
  .next (wrSMadr 12 v s)

/-- `RD S.BCR[12]+0` (R222). -/
def execRdSBcr_12_0 (w : AccessWidth) (s : State) : Host.Outcome State Fault Refusal :=
  .next (rdSBcr 12 0 w s)

/-- `RD S.BCR[12]+1` (R222). -/
def execRdSBcr_12_1 (s : State) : Host.Outcome State Fault Refusal :=
  .next (rdSBcr 12 1 .w8 s)

/-- `RD S.BCR[12]+2` (R222). -/
def execRdSBcr_12_2 (w : LaneWidth) (s : State) : Host.Outcome State Fault Refusal :=
  .next (rdSBcr 12 2 w.toAccess s)

/-- `RD S.BCR[12]+3` (R222). -/
def execRdSBcr_12_3 (s : State) : Host.Outcome State Fault Refusal :=
  .next (rdSBcr 12 3 .w8 s)

/-- `WR S.BCR[12]+0` (R223). -/
def execWrSBcr_12_0 (w : AccessWidth) (v : Word) (s : State) : Host.Outcome State Fault Refusal :=
  .next (wrSBcr 12 0 w v s)

/-- `WR S.BCR[12]+1` (R223). -/
def execWrSBcr_12_1 (v : Byte) (s : State) : Host.Outcome State Fault Refusal :=
  .next (wrSBcr 12 1 .w8 (v.setWidth 32) s)

/-- `WR S.BCR[12]+2` (R223). -/
def execWrSBcr_12_2 (w : LaneWidth) (v : BitVec 16) (s : State) : Host.Outcome State Fault Refusal :=
  .next (wrSBcr 12 2 w.toAccess (v.setWidth 32) s)

/-- `WR S.BCR[12]+3` (R223). -/
def execWrSBcr_12_3 (v : Byte) (s : State) : Host.Outcome State Fault Refusal :=
  .next (wrSBcr 12 3 .w8 (v.setWidth 32) s)

/-- `RD S.CHCR[12]` (R224). -/
def execRdSChcr_12 (s : State) : Host.Outcome State Fault Refusal :=
  .next (rdSChcr 12 s)

/-- `WR S.CHCR[12]` (R225). -/
def execWrSChcr_12 (v : Word) (s : State) : Host.Outcome State Fault Refusal :=
  .next (wrSChcr 12 v s)

/-- `RD S.TADR[12]` (R226). -/
def execRdSTadr_12 (s : State) : Host.Outcome State Fault Refusal :=
  .next (rdSTadr 12 s)

/-- `WR S.TADR[12]` (R227). -/
def execWrSTadr_12 (v : Word) (s : State) : Host.Outcome State Fault Refusal :=
  .next (wrSTadr 12 v s)

/-- `RD S.DPCR` (R228). -/
def execRdSDpcr (s : State) : Host.Outcome State Fault Refusal :=
  .next (rdSDpcr s)

/-- `WR S.DPCR` (R229). -/
def execWrSDpcr (v : Word) (s : State) : Host.Outcome State Fault Refusal :=
  .next (wrSDpcr v s)

/-- `RD S.DICR` (R232). -/
def execRdSDicr (s : State) : Host.Outcome State Fault Refusal :=
  .next (rdSDicr s)

/-- `WR S.DICR` (R233). -/
def execWrSDicr (v : Word) (s : State) : Host.Outcome State Fault Refusal :=
  .next (wrSDicr v s)

/-- `RD S.DPCR2` (R230). -/
def execRdSDpcr2 (s : State) : Host.Outcome State Fault Refusal :=
  .next (rdSDpcr2 s)

/-- `WR S.DPCR2` (R231). -/
def execWrSDpcr2 (v : Word) (s : State) : Host.Outcome State Fault Refusal :=
  .next (wrSDpcr2 v s)

/-- `RD S.DICR2` (R234). -/
def execRdSDicr2 (s : State) : Host.Outcome State Fault Refusal :=
  .next (rdSDicr2 s)

/-- `WR S.DICR2` (R235). -/
def execWrSDicr2 (v : Word) (s : State) : Host.Outcome State Fault Refusal :=
  .next (wrSDicr2 v s)

/-- `RD S.DMACEN` (R236). -/
def execRdSDmacen (s : State) : Host.Outcome State Fault Refusal :=
  .next (rdSDmacen s)

/-- `WR S.DMACEN` (R237). -/
def execWrSDmacen (v : Word) (s : State) : Host.Outcome State Fault Refusal :=
  .next (wrSDmacen v s)

/-- `RD S.DMACINTEN` (R238). -/
def execRdSDmacinten (s : State) : Host.Outcome State Fault Refusal :=
  .next (rdSDmacinten s)

/-- `WR S.DMACINTEN` (R239). -/
def execWrSDmacinten (v : Word) (s : State) : Host.Outcome State Fault Refusal :=
  .next (wrSDmacinten v s)

end Sys2Proof.Machine
end

