-- ==== Sys2Proof/Machine/Tags.lean ====
section
/-! DEFINITION. The tag rows of the opcode table (R254 to R267, R275): the rest of a service invocation, once the tag of
channel c is read and decoded (R296, R349; log 15). -/

namespace Sys2Proof.Machine

/-- Source chain REFE, ID 0 (R254). -/
def execPSrcTagRefe (c : PChan) (t : PTag) (s : State) : Host.Outcome State Fault Refusal :=
  .next (runTagP .source c (packPTag 0 t) (some (srcRefe (s.pch c).tadr (pTie (s.pch c).chcr) t)) s)

/-- Source chain CNT, ID 1 (R255). -/
def execPSrcTagCnt (c : PChan) (t : PTag) (s : State) : Host.Outcome State Fault Refusal :=
  .next (runTagP .source c (packPTag 1 t) (some (srcCnt (s.pch c).tadr (pTie (s.pch c).chcr) t)) s)

/-- Source chain NEXT, ID 2 (R256). -/
def execPSrcTagNext (c : PChan) (t : PTag) (s : State) : Host.Outcome State Fault Refusal :=
  .next (runTagP .source c (packPTag 2 t) (some (srcNext (s.pch c).tadr (pTie (s.pch c).chcr) t)) s)

/-- Source chain REF, ID 3 (R257). -/
def execPSrcTagRef (c : PChan) (t : PTag) (s : State) : Host.Outcome State Fault Refusal :=
  .next (runTagP .source c (packPTag 3 t) (some (srcRef (s.pch c).tadr (pTie (s.pch c).chcr) t)) s)

/-- Source chain REFS, ID 4 (R258). -/
def execPSrcTagRefs (c : PChan) (t : PTag) (s : State) : Host.Outcome State Fault Refusal :=
  .next (runTagP .source c (packPTag 4 t) (some (srcRefs (s.pch c).tadr (pTie (s.pch c).chcr) t)) s)

/-- Source chain CALL, ID 5 (R259): Fatal(UNMODELLED_TAG), always. -/
def execPSrcTagCall (c : PChan) (t : PTag) (s : State) : Host.Outcome State Fault Refusal :=
  .next (runTagP .source c (packPTag 5 t) none s)

/-- Source chain RET, ID 6 (R260): Fatal(UNMODELLED_TAG), always. -/
def execPSrcTagRet (c : PChan) (t : PTag) (s : State) : Host.Outcome State Fault Refusal :=
  .next (runTagP .source c (packPTag 6 t) none s)

/-- Source chain END, ID 7 (R261). -/
def execPSrcTagEnd (c : PChan) (t : PTag) (s : State) : Host.Outcome State Fault Refusal :=
  .next (runTagP .source c (packPTag 7 t) (some (srcEnd (s.pch c).tadr (pTie (s.pch c).chcr) t)) s)

/-- Destination chain CNTS, ID 0 (R265). -/
def execPDstTagCnts (c : PChan) (t : PTag) (s : State) : Host.Outcome State Fault Refusal :=
  .next (runTagP .destination c (packPTag 0 t) (some (dstCnts (s.pch c).tadr (pTie (s.pch c).chcr) t)) s)

/-- Destination chain CNT, ID 1 (R264). -/
def execPDstTagCnt (c : PChan) (t : PTag) (s : State) : Host.Outcome State Fault Refusal :=
  .next (runTagP .destination c (packPTag 1 t) (some (dstCnt (s.pch c).tadr (pTie (s.pch c).chcr) t)) s)

/-- Destination chain ID2, ID 2 (R267): Fatal(UNMODELLED_TAG), always. -/
def execPDstTagId2 (c : PChan) (t : PTag) (s : State) : Host.Outcome State Fault Refusal :=
  .next (runTagP .destination c (packPTag 2 t) none s)

/-- Destination chain ID3, ID 3 (R267): Fatal(UNMODELLED_TAG), always. -/
def execPDstTagId3 (c : PChan) (t : PTag) (s : State) : Host.Outcome State Fault Refusal :=
  .next (runTagP .destination c (packPTag 3 t) none s)

/-- Destination chain ID4, ID 4 (R267): Fatal(UNMODELLED_TAG), always. -/
def execPDstTagId4 (c : PChan) (t : PTag) (s : State) : Host.Outcome State Fault Refusal :=
  .next (runTagP .destination c (packPTag 4 t) none s)

/-- Destination chain ID5, ID 5 (R267): Fatal(UNMODELLED_TAG), always. -/
def execPDstTagId5 (c : PChan) (t : PTag) (s : State) : Host.Outcome State Fault Refusal :=
  .next (runTagP .destination c (packPTag 5 t) none s)

/-- Destination chain ID6, ID 6 (R267): Fatal(UNMODELLED_TAG), always. -/
def execPDstTagId6 (c : PChan) (t : PTag) (s : State) : Host.Outcome State Fault Refusal :=
  .next (runTagP .destination c (packPTag 6 t) none s)

/-- Destination chain END, ID 7 (R266). -/
def execPDstTagEnd (c : PChan) (t : PTag) (s : State) : Host.Outcome State Fault Refusal :=
  .next (runTagP .destination c (packPTag 7 t) (some (dstEnd (s.pch c).tadr (pTie (s.pch c).chcr) t)) s)

/-- The engine S tag (R275, R276, R349). -/
def execSTag (c : SChan) (t : STag) (s : State) : Host.Outcome State Fault Refusal := .next (runTagS c t s)

end Sys2Proof.Machine
end

