-- ==== Sys2Proof/Machine/Dispatch.lean ====
section
/-! DEFINITION. What each instruction does: one arm per constructor, each one call of its meaning. -/

namespace Sys2Proof.Machine

def exec (i : Instr) (s : State) : Host.Outcome State Fault Refusal :=
  match i with
  | .rdPChcr_0 => Sys2Proof.Machine.execRdPChcr_0 s
  | .wrPChcr_0 v => Sys2Proof.Machine.execWrPChcr_0 v s
  | .rdPMadr_0 => Sys2Proof.Machine.execRdPMadr_0 s
  | .wrPMadr_0 v => Sys2Proof.Machine.execWrPMadr_0 v s
  | .rdPQwc_0 => Sys2Proof.Machine.execRdPQwc_0 s
  | .wrPQwc_0 v => Sys2Proof.Machine.execWrPQwc_0 v s
  | .rdPTadr_0 => Sys2Proof.Machine.execRdPTadr_0 s
  | .wrPTadr_0 v => Sys2Proof.Machine.execWrPTadr_0 v s
  | .rdPAsr0_0 => Sys2Proof.Machine.execRdPAsr0_0 s
  | .wrPAsr0_0 v => Sys2Proof.Machine.execWrPAsr0_0 v s
  | .rdPAsr1_0 => Sys2Proof.Machine.execRdPAsr1_0 s
  | .wrPAsr1_0 v => Sys2Proof.Machine.execWrPAsr1_0 v s
  | .rdPSadr_0 => Sys2Proof.Machine.execRdPSadr_0 s
  | .wrPSadr_0 v => Sys2Proof.Machine.execWrPSadr_0 v s
  | .rdPChcr_1 => Sys2Proof.Machine.execRdPChcr_1 s
  | .wrPChcr_1 v => Sys2Proof.Machine.execWrPChcr_1 v s
  | .rdPMadr_1 => Sys2Proof.Machine.execRdPMadr_1 s
  | .wrPMadr_1 v => Sys2Proof.Machine.execWrPMadr_1 v s
  | .rdPQwc_1 => Sys2Proof.Machine.execRdPQwc_1 s
  | .wrPQwc_1 v => Sys2Proof.Machine.execWrPQwc_1 v s
  | .rdPTadr_1 => Sys2Proof.Machine.execRdPTadr_1 s
  | .wrPTadr_1 v => Sys2Proof.Machine.execWrPTadr_1 v s
  | .rdPAsr0_1 => Sys2Proof.Machine.execRdPAsr0_1 s
  | .wrPAsr0_1 v => Sys2Proof.Machine.execWrPAsr0_1 v s
  | .rdPAsr1_1 => Sys2Proof.Machine.execRdPAsr1_1 s
  | .wrPAsr1_1 v => Sys2Proof.Machine.execWrPAsr1_1 v s
  | .rdPSadr_1 => Sys2Proof.Machine.execRdPSadr_1 s
  | .wrPSadr_1 v => Sys2Proof.Machine.execWrPSadr_1 v s
  | .rdPChcr_2 => Sys2Proof.Machine.execRdPChcr_2 s
  | .wrPChcr_2 v => Sys2Proof.Machine.execWrPChcr_2 v s
  | .rdPMadr_2 => Sys2Proof.Machine.execRdPMadr_2 s
  | .wrPMadr_2 v => Sys2Proof.Machine.execWrPMadr_2 v s
  | .rdPQwc_2 => Sys2Proof.Machine.execRdPQwc_2 s
  | .wrPQwc_2 v => Sys2Proof.Machine.execWrPQwc_2 v s
  | .rdPTadr_2 => Sys2Proof.Machine.execRdPTadr_2 s
  | .wrPTadr_2 v => Sys2Proof.Machine.execWrPTadr_2 v s
  | .rdPAsr0_2 => Sys2Proof.Machine.execRdPAsr0_2 s
  | .wrPAsr0_2 v => Sys2Proof.Machine.execWrPAsr0_2 v s
  | .rdPAsr1_2 => Sys2Proof.Machine.execRdPAsr1_2 s
  | .wrPAsr1_2 v => Sys2Proof.Machine.execWrPAsr1_2 v s
  | .rdPSadr_2 => Sys2Proof.Machine.execRdPSadr_2 s
  | .wrPSadr_2 v => Sys2Proof.Machine.execWrPSadr_2 v s
  | .rdPChcr_3 => Sys2Proof.Machine.execRdPChcr_3 s
  | .wrPChcr_3 v => Sys2Proof.Machine.execWrPChcr_3 v s
  | .rdPMadr_3 => Sys2Proof.Machine.execRdPMadr_3 s
  | .wrPMadr_3 v => Sys2Proof.Machine.execWrPMadr_3 v s
  | .rdPQwc_3 => Sys2Proof.Machine.execRdPQwc_3 s
  | .wrPQwc_3 v => Sys2Proof.Machine.execWrPQwc_3 v s
  | .rdPTadr_3 => Sys2Proof.Machine.execRdPTadr_3 s
  | .wrPTadr_3 v => Sys2Proof.Machine.execWrPTadr_3 v s
  | .rdPAsr0_3 => Sys2Proof.Machine.execRdPAsr0_3 s
  | .wrPAsr0_3 v => Sys2Proof.Machine.execWrPAsr0_3 v s
  | .rdPAsr1_3 => Sys2Proof.Machine.execRdPAsr1_3 s
  | .wrPAsr1_3 v => Sys2Proof.Machine.execWrPAsr1_3 v s
  | .rdPSadr_3 => Sys2Proof.Machine.execRdPSadr_3 s
  | .wrPSadr_3 v => Sys2Proof.Machine.execWrPSadr_3 v s
  | .rdPChcr_4 => Sys2Proof.Machine.execRdPChcr_4 s
  | .wrPChcr_4 v => Sys2Proof.Machine.execWrPChcr_4 v s
  | .rdPMadr_4 => Sys2Proof.Machine.execRdPMadr_4 s
  | .wrPMadr_4 v => Sys2Proof.Machine.execWrPMadr_4 v s
  | .rdPQwc_4 => Sys2Proof.Machine.execRdPQwc_4 s
  | .wrPQwc_4 v => Sys2Proof.Machine.execWrPQwc_4 v s
  | .rdPTadr_4 => Sys2Proof.Machine.execRdPTadr_4 s
  | .wrPTadr_4 v => Sys2Proof.Machine.execWrPTadr_4 v s
  | .rdPAsr0_4 => Sys2Proof.Machine.execRdPAsr0_4 s
  | .wrPAsr0_4 v => Sys2Proof.Machine.execWrPAsr0_4 v s
  | .rdPAsr1_4 => Sys2Proof.Machine.execRdPAsr1_4 s
  | .wrPAsr1_4 v => Sys2Proof.Machine.execWrPAsr1_4 v s
  | .rdPSadr_4 => Sys2Proof.Machine.execRdPSadr_4 s
  | .wrPSadr_4 v => Sys2Proof.Machine.execWrPSadr_4 v s
  | .rdPChcr_5 => Sys2Proof.Machine.execRdPChcr_5 s
  | .wrPChcr_5 v => Sys2Proof.Machine.execWrPChcr_5 v s
  | .rdPMadr_5 => Sys2Proof.Machine.execRdPMadr_5 s
  | .wrPMadr_5 v => Sys2Proof.Machine.execWrPMadr_5 v s
  | .rdPQwc_5 => Sys2Proof.Machine.execRdPQwc_5 s
  | .wrPQwc_5 v => Sys2Proof.Machine.execWrPQwc_5 v s
  | .rdPTadr_5 => Sys2Proof.Machine.execRdPTadr_5 s
  | .wrPTadr_5 v => Sys2Proof.Machine.execWrPTadr_5 v s
  | .rdPAsr0_5 => Sys2Proof.Machine.execRdPAsr0_5 s
  | .wrPAsr0_5 v => Sys2Proof.Machine.execWrPAsr0_5 v s
  | .rdPAsr1_5 => Sys2Proof.Machine.execRdPAsr1_5 s
  | .wrPAsr1_5 v => Sys2Proof.Machine.execWrPAsr1_5 v s
  | .rdPSadr_5 => Sys2Proof.Machine.execRdPSadr_5 s
  | .wrPSadr_5 v => Sys2Proof.Machine.execWrPSadr_5 v s
  | .rdPChcr_6 => Sys2Proof.Machine.execRdPChcr_6 s
  | .wrPChcr_6 v => Sys2Proof.Machine.execWrPChcr_6 v s
  | .rdPMadr_6 => Sys2Proof.Machine.execRdPMadr_6 s
  | .wrPMadr_6 v => Sys2Proof.Machine.execWrPMadr_6 v s
  | .rdPQwc_6 => Sys2Proof.Machine.execRdPQwc_6 s
  | .wrPQwc_6 v => Sys2Proof.Machine.execWrPQwc_6 v s
  | .rdPTadr_6 => Sys2Proof.Machine.execRdPTadr_6 s
  | .wrPTadr_6 v => Sys2Proof.Machine.execWrPTadr_6 v s
  | .rdPAsr0_6 => Sys2Proof.Machine.execRdPAsr0_6 s
  | .wrPAsr0_6 v => Sys2Proof.Machine.execWrPAsr0_6 v s
  | .rdPAsr1_6 => Sys2Proof.Machine.execRdPAsr1_6 s
  | .wrPAsr1_6 v => Sys2Proof.Machine.execWrPAsr1_6 v s
  | .rdPSadr_6 => Sys2Proof.Machine.execRdPSadr_6 s
  | .wrPSadr_6 v => Sys2Proof.Machine.execWrPSadr_6 v s
  | .rdPChcr_7 => Sys2Proof.Machine.execRdPChcr_7 s
  | .wrPChcr_7 v => Sys2Proof.Machine.execWrPChcr_7 v s
  | .rdPMadr_7 => Sys2Proof.Machine.execRdPMadr_7 s
  | .wrPMadr_7 v => Sys2Proof.Machine.execWrPMadr_7 v s
  | .rdPQwc_7 => Sys2Proof.Machine.execRdPQwc_7 s
  | .wrPQwc_7 v => Sys2Proof.Machine.execWrPQwc_7 v s
  | .rdPTadr_7 => Sys2Proof.Machine.execRdPTadr_7 s
  | .wrPTadr_7 v => Sys2Proof.Machine.execWrPTadr_7 v s
  | .rdPAsr0_7 => Sys2Proof.Machine.execRdPAsr0_7 s
  | .wrPAsr0_7 v => Sys2Proof.Machine.execWrPAsr0_7 v s
  | .rdPAsr1_7 => Sys2Proof.Machine.execRdPAsr1_7 s
  | .wrPAsr1_7 v => Sys2Proof.Machine.execWrPAsr1_7 v s
  | .rdPSadr_7 => Sys2Proof.Machine.execRdPSadr_7 s
  | .wrPSadr_7 v => Sys2Proof.Machine.execWrPSadr_7 v s
  | .rdPChcr_8 => Sys2Proof.Machine.execRdPChcr_8 s
  | .wrPChcr_8 v => Sys2Proof.Machine.execWrPChcr_8 v s
  | .rdPMadr_8 => Sys2Proof.Machine.execRdPMadr_8 s
  | .wrPMadr_8 v => Sys2Proof.Machine.execWrPMadr_8 v s
  | .rdPQwc_8 => Sys2Proof.Machine.execRdPQwc_8 s
  | .wrPQwc_8 v => Sys2Proof.Machine.execWrPQwc_8 v s
  | .rdPTadr_8 => Sys2Proof.Machine.execRdPTadr_8 s
  | .wrPTadr_8 v => Sys2Proof.Machine.execWrPTadr_8 v s
  | .rdPAsr0_8 => Sys2Proof.Machine.execRdPAsr0_8 s
  | .wrPAsr0_8 v => Sys2Proof.Machine.execWrPAsr0_8 v s
  | .rdPAsr1_8 => Sys2Proof.Machine.execRdPAsr1_8 s
  | .wrPAsr1_8 v => Sys2Proof.Machine.execWrPAsr1_8 v s
  | .rdPSadr_8 => Sys2Proof.Machine.execRdPSadr_8 s
  | .wrPSadr_8 v => Sys2Proof.Machine.execWrPSadr_8 v s
  | .rdPChcr_9 => Sys2Proof.Machine.execRdPChcr_9 s
  | .wrPChcr_9 v => Sys2Proof.Machine.execWrPChcr_9 v s
  | .rdPMadr_9 => Sys2Proof.Machine.execRdPMadr_9 s
  | .wrPMadr_9 v => Sys2Proof.Machine.execWrPMadr_9 v s
  | .rdPQwc_9 => Sys2Proof.Machine.execRdPQwc_9 s
  | .wrPQwc_9 v => Sys2Proof.Machine.execWrPQwc_9 v s
  | .rdPTadr_9 => Sys2Proof.Machine.execRdPTadr_9 s
  | .wrPTadr_9 v => Sys2Proof.Machine.execWrPTadr_9 v s
  | .rdPAsr0_9 => Sys2Proof.Machine.execRdPAsr0_9 s
  | .wrPAsr0_9 v => Sys2Proof.Machine.execWrPAsr0_9 v s
  | .rdPAsr1_9 => Sys2Proof.Machine.execRdPAsr1_9 s
  | .wrPAsr1_9 v => Sys2Proof.Machine.execWrPAsr1_9 v s
  | .rdPSadr_9 => Sys2Proof.Machine.execRdPSadr_9 s
  | .wrPSadr_9 v => Sys2Proof.Machine.execWrPSadr_9 v s
  | .rdPDCtrl => Sys2Proof.Machine.execRdPDCtrl s
  | .wrPDCtrl v => Sys2Proof.Machine.execWrPDCtrl v s
  | .rdPDStat => Sys2Proof.Machine.execRdPDStat s
  | .wrPDStat v => Sys2Proof.Machine.execWrPDStat v s
  | .rdPDPcr => Sys2Proof.Machine.execRdPDPcr s
  | .wrPDPcr v => Sys2Proof.Machine.execWrPDPcr v s
  | .rdSMadr_0 => Sys2Proof.Machine.execRdSMadr_0 s
  | .wrSMadr_0 v => Sys2Proof.Machine.execWrSMadr_0 v s
  | .rdSBcr_0_0 w => Sys2Proof.Machine.execRdSBcr_0_0 w s
  | .rdSBcr_0_1 => Sys2Proof.Machine.execRdSBcr_0_1 s
  | .rdSBcr_0_2 w => Sys2Proof.Machine.execRdSBcr_0_2 w s
  | .rdSBcr_0_3 => Sys2Proof.Machine.execRdSBcr_0_3 s
  | .wrSBcr_0_0 w v => Sys2Proof.Machine.execWrSBcr_0_0 w v s
  | .wrSBcr_0_1 v => Sys2Proof.Machine.execWrSBcr_0_1 v s
  | .wrSBcr_0_2 w v => Sys2Proof.Machine.execWrSBcr_0_2 w v s
  | .wrSBcr_0_3 v => Sys2Proof.Machine.execWrSBcr_0_3 v s
  | .rdSChcr_0 => Sys2Proof.Machine.execRdSChcr_0 s
  | .wrSChcr_0 v => Sys2Proof.Machine.execWrSChcr_0 v s
  | .rdSTadr_0 => Sys2Proof.Machine.execRdSTadr_0 s
  | .wrSTadr_0 v => Sys2Proof.Machine.execWrSTadr_0 v s
  | .rdSMadr_1 => Sys2Proof.Machine.execRdSMadr_1 s
  | .wrSMadr_1 v => Sys2Proof.Machine.execWrSMadr_1 v s
  | .rdSBcr_1_0 w => Sys2Proof.Machine.execRdSBcr_1_0 w s
  | .rdSBcr_1_1 => Sys2Proof.Machine.execRdSBcr_1_1 s
  | .rdSBcr_1_2 w => Sys2Proof.Machine.execRdSBcr_1_2 w s
  | .rdSBcr_1_3 => Sys2Proof.Machine.execRdSBcr_1_3 s
  | .wrSBcr_1_0 w v => Sys2Proof.Machine.execWrSBcr_1_0 w v s
  | .wrSBcr_1_1 v => Sys2Proof.Machine.execWrSBcr_1_1 v s
  | .wrSBcr_1_2 w v => Sys2Proof.Machine.execWrSBcr_1_2 w v s
  | .wrSBcr_1_3 v => Sys2Proof.Machine.execWrSBcr_1_3 v s
  | .rdSChcr_1 => Sys2Proof.Machine.execRdSChcr_1 s
  | .wrSChcr_1 v => Sys2Proof.Machine.execWrSChcr_1 v s
  | .rdSTadr_1 => Sys2Proof.Machine.execRdSTadr_1 s
  | .wrSTadr_1 v => Sys2Proof.Machine.execWrSTadr_1 v s
  | .rdSMadr_2 => Sys2Proof.Machine.execRdSMadr_2 s
  | .wrSMadr_2 v => Sys2Proof.Machine.execWrSMadr_2 v s
  | .rdSBcr_2_0 w => Sys2Proof.Machine.execRdSBcr_2_0 w s
  | .rdSBcr_2_1 => Sys2Proof.Machine.execRdSBcr_2_1 s
  | .rdSBcr_2_2 w => Sys2Proof.Machine.execRdSBcr_2_2 w s
  | .rdSBcr_2_3 => Sys2Proof.Machine.execRdSBcr_2_3 s
  | .wrSBcr_2_0 w v => Sys2Proof.Machine.execWrSBcr_2_0 w v s
  | .wrSBcr_2_1 v => Sys2Proof.Machine.execWrSBcr_2_1 v s
  | .wrSBcr_2_2 w v => Sys2Proof.Machine.execWrSBcr_2_2 w v s
  | .wrSBcr_2_3 v => Sys2Proof.Machine.execWrSBcr_2_3 v s
  | .rdSChcr_2 => Sys2Proof.Machine.execRdSChcr_2 s
  | .wrSChcr_2 v => Sys2Proof.Machine.execWrSChcr_2 v s
  | .rdSTadr_2 => Sys2Proof.Machine.execRdSTadr_2 s
  | .wrSTadr_2 v => Sys2Proof.Machine.execWrSTadr_2 v s
  | .rdSMadr_3 => Sys2Proof.Machine.execRdSMadr_3 s
  | .wrSMadr_3 v => Sys2Proof.Machine.execWrSMadr_3 v s
  | .rdSBcr_3_0 w => Sys2Proof.Machine.execRdSBcr_3_0 w s
  | .rdSBcr_3_1 => Sys2Proof.Machine.execRdSBcr_3_1 s
  | .rdSBcr_3_2 w => Sys2Proof.Machine.execRdSBcr_3_2 w s
  | .rdSBcr_3_3 => Sys2Proof.Machine.execRdSBcr_3_3 s
  | .wrSBcr_3_0 w v => Sys2Proof.Machine.execWrSBcr_3_0 w v s
  | .wrSBcr_3_1 v => Sys2Proof.Machine.execWrSBcr_3_1 v s
  | .wrSBcr_3_2 w v => Sys2Proof.Machine.execWrSBcr_3_2 w v s
  | .wrSBcr_3_3 v => Sys2Proof.Machine.execWrSBcr_3_3 v s
  | .rdSChcr_3 => Sys2Proof.Machine.execRdSChcr_3 s
  | .wrSChcr_3 v => Sys2Proof.Machine.execWrSChcr_3 v s
  | .rdSTadr_3 => Sys2Proof.Machine.execRdSTadr_3 s
  | .wrSTadr_3 v => Sys2Proof.Machine.execWrSTadr_3 v s
  | .rdSMadr_4 => Sys2Proof.Machine.execRdSMadr_4 s
  | .wrSMadr_4 v => Sys2Proof.Machine.execWrSMadr_4 v s
  | .rdSBcr_4_0 w => Sys2Proof.Machine.execRdSBcr_4_0 w s
  | .rdSBcr_4_1 => Sys2Proof.Machine.execRdSBcr_4_1 s
  | .rdSBcr_4_2 w => Sys2Proof.Machine.execRdSBcr_4_2 w s
  | .rdSBcr_4_3 => Sys2Proof.Machine.execRdSBcr_4_3 s
  | .wrSBcr_4_0 w v => Sys2Proof.Machine.execWrSBcr_4_0 w v s
  | .wrSBcr_4_1 v => Sys2Proof.Machine.execWrSBcr_4_1 v s
  | .wrSBcr_4_2 w v => Sys2Proof.Machine.execWrSBcr_4_2 w v s
  | .wrSBcr_4_3 v => Sys2Proof.Machine.execWrSBcr_4_3 v s
  | .rdSChcr_4 => Sys2Proof.Machine.execRdSChcr_4 s
  | .wrSChcr_4 v => Sys2Proof.Machine.execWrSChcr_4 v s
  | .rdSTadr_4 => Sys2Proof.Machine.execRdSTadr_4 s
  | .wrSTadr_4 v => Sys2Proof.Machine.execWrSTadr_4 v s
  | .rdSMadr_5 => Sys2Proof.Machine.execRdSMadr_5 s
  | .wrSMadr_5 v => Sys2Proof.Machine.execWrSMadr_5 v s
  | .rdSBcr_5_0 w => Sys2Proof.Machine.execRdSBcr_5_0 w s
  | .rdSBcr_5_1 => Sys2Proof.Machine.execRdSBcr_5_1 s
  | .rdSBcr_5_2 w => Sys2Proof.Machine.execRdSBcr_5_2 w s
  | .rdSBcr_5_3 => Sys2Proof.Machine.execRdSBcr_5_3 s
  | .wrSBcr_5_0 w v => Sys2Proof.Machine.execWrSBcr_5_0 w v s
  | .wrSBcr_5_1 v => Sys2Proof.Machine.execWrSBcr_5_1 v s
  | .wrSBcr_5_2 w v => Sys2Proof.Machine.execWrSBcr_5_2 w v s
  | .wrSBcr_5_3 v => Sys2Proof.Machine.execWrSBcr_5_3 v s
  | .rdSChcr_5 => Sys2Proof.Machine.execRdSChcr_5 s
  | .wrSChcr_5 v => Sys2Proof.Machine.execWrSChcr_5 v s
  | .rdSTadr_5 => Sys2Proof.Machine.execRdSTadr_5 s
  | .wrSTadr_5 v => Sys2Proof.Machine.execWrSTadr_5 v s
  | .rdSMadr_6 => Sys2Proof.Machine.execRdSMadr_6 s
  | .wrSMadr_6 v => Sys2Proof.Machine.execWrSMadr_6 v s
  | .rdSBcr_6_0 w => Sys2Proof.Machine.execRdSBcr_6_0 w s
  | .rdSBcr_6_1 => Sys2Proof.Machine.execRdSBcr_6_1 s
  | .rdSBcr_6_2 w => Sys2Proof.Machine.execRdSBcr_6_2 w s
  | .rdSBcr_6_3 => Sys2Proof.Machine.execRdSBcr_6_3 s
  | .wrSBcr_6_0 w v => Sys2Proof.Machine.execWrSBcr_6_0 w v s
  | .wrSBcr_6_1 v => Sys2Proof.Machine.execWrSBcr_6_1 v s
  | .wrSBcr_6_2 w v => Sys2Proof.Machine.execWrSBcr_6_2 w v s
  | .wrSBcr_6_3 v => Sys2Proof.Machine.execWrSBcr_6_3 v s
  | .rdSChcr_6 => Sys2Proof.Machine.execRdSChcr_6 s
  | .wrSChcr_6 v => Sys2Proof.Machine.execWrSChcr_6 v s
  | .rdSTadr_6 => Sys2Proof.Machine.execRdSTadr_6 s
  | .wrSTadr_6 v => Sys2Proof.Machine.execWrSTadr_6 v s
  | .rdSMadr_7 => Sys2Proof.Machine.execRdSMadr_7 s
  | .wrSMadr_7 v => Sys2Proof.Machine.execWrSMadr_7 v s
  | .rdSBcr_7_0 w => Sys2Proof.Machine.execRdSBcr_7_0 w s
  | .rdSBcr_7_1 => Sys2Proof.Machine.execRdSBcr_7_1 s
  | .rdSBcr_7_2 w => Sys2Proof.Machine.execRdSBcr_7_2 w s
  | .rdSBcr_7_3 => Sys2Proof.Machine.execRdSBcr_7_3 s
  | .wrSBcr_7_0 w v => Sys2Proof.Machine.execWrSBcr_7_0 w v s
  | .wrSBcr_7_1 v => Sys2Proof.Machine.execWrSBcr_7_1 v s
  | .wrSBcr_7_2 w v => Sys2Proof.Machine.execWrSBcr_7_2 w v s
  | .wrSBcr_7_3 v => Sys2Proof.Machine.execWrSBcr_7_3 v s
  | .rdSChcr_7 => Sys2Proof.Machine.execRdSChcr_7 s
  | .wrSChcr_7 v => Sys2Proof.Machine.execWrSChcr_7 v s
  | .rdSTadr_7 => Sys2Proof.Machine.execRdSTadr_7 s
  | .wrSTadr_7 v => Sys2Proof.Machine.execWrSTadr_7 v s
  | .rdSMadr_8 => Sys2Proof.Machine.execRdSMadr_8 s
  | .wrSMadr_8 v => Sys2Proof.Machine.execWrSMadr_8 v s
  | .rdSBcr_8_0 w => Sys2Proof.Machine.execRdSBcr_8_0 w s
  | .rdSBcr_8_1 => Sys2Proof.Machine.execRdSBcr_8_1 s
  | .rdSBcr_8_2 w => Sys2Proof.Machine.execRdSBcr_8_2 w s
  | .rdSBcr_8_3 => Sys2Proof.Machine.execRdSBcr_8_3 s
  | .wrSBcr_8_0 w v => Sys2Proof.Machine.execWrSBcr_8_0 w v s
  | .wrSBcr_8_1 v => Sys2Proof.Machine.execWrSBcr_8_1 v s
  | .wrSBcr_8_2 w v => Sys2Proof.Machine.execWrSBcr_8_2 w v s
  | .wrSBcr_8_3 v => Sys2Proof.Machine.execWrSBcr_8_3 v s
  | .rdSChcr_8 => Sys2Proof.Machine.execRdSChcr_8 s
  | .wrSChcr_8 v => Sys2Proof.Machine.execWrSChcr_8 v s
  | .rdSTadr_8 => Sys2Proof.Machine.execRdSTadr_8 s
  | .wrSTadr_8 v => Sys2Proof.Machine.execWrSTadr_8 v s
  | .rdSMadr_9 => Sys2Proof.Machine.execRdSMadr_9 s
  | .wrSMadr_9 v => Sys2Proof.Machine.execWrSMadr_9 v s
  | .rdSBcr_9_0 w => Sys2Proof.Machine.execRdSBcr_9_0 w s
  | .rdSBcr_9_1 => Sys2Proof.Machine.execRdSBcr_9_1 s
  | .rdSBcr_9_2 w => Sys2Proof.Machine.execRdSBcr_9_2 w s
  | .rdSBcr_9_3 => Sys2Proof.Machine.execRdSBcr_9_3 s
  | .wrSBcr_9_0 w v => Sys2Proof.Machine.execWrSBcr_9_0 w v s
  | .wrSBcr_9_1 v => Sys2Proof.Machine.execWrSBcr_9_1 v s
  | .wrSBcr_9_2 w v => Sys2Proof.Machine.execWrSBcr_9_2 w v s
  | .wrSBcr_9_3 v => Sys2Proof.Machine.execWrSBcr_9_3 v s
  | .rdSChcr_9 => Sys2Proof.Machine.execRdSChcr_9 s
  | .wrSChcr_9 v => Sys2Proof.Machine.execWrSChcr_9 v s
  | .rdSTadr_9 => Sys2Proof.Machine.execRdSTadr_9 s
  | .wrSTadr_9 v => Sys2Proof.Machine.execWrSTadr_9 v s
  | .rdSMadr_10 => Sys2Proof.Machine.execRdSMadr_10 s
  | .wrSMadr_10 v => Sys2Proof.Machine.execWrSMadr_10 v s
  | .rdSBcr_10_0 w => Sys2Proof.Machine.execRdSBcr_10_0 w s
  | .rdSBcr_10_1 => Sys2Proof.Machine.execRdSBcr_10_1 s
  | .rdSBcr_10_2 w => Sys2Proof.Machine.execRdSBcr_10_2 w s
  | .rdSBcr_10_3 => Sys2Proof.Machine.execRdSBcr_10_3 s
  | .wrSBcr_10_0 w v => Sys2Proof.Machine.execWrSBcr_10_0 w v s
  | .wrSBcr_10_1 v => Sys2Proof.Machine.execWrSBcr_10_1 v s
  | .wrSBcr_10_2 w v => Sys2Proof.Machine.execWrSBcr_10_2 w v s
  | .wrSBcr_10_3 v => Sys2Proof.Machine.execWrSBcr_10_3 v s
  | .rdSChcr_10 => Sys2Proof.Machine.execRdSChcr_10 s
  | .wrSChcr_10 v => Sys2Proof.Machine.execWrSChcr_10 v s
  | .rdSTadr_10 => Sys2Proof.Machine.execRdSTadr_10 s
  | .wrSTadr_10 v => Sys2Proof.Machine.execWrSTadr_10 v s
  | .rdSMadr_11 => Sys2Proof.Machine.execRdSMadr_11 s
  | .wrSMadr_11 v => Sys2Proof.Machine.execWrSMadr_11 v s
  | .rdSBcr_11_0 w => Sys2Proof.Machine.execRdSBcr_11_0 w s
  | .rdSBcr_11_1 => Sys2Proof.Machine.execRdSBcr_11_1 s
  | .rdSBcr_11_2 w => Sys2Proof.Machine.execRdSBcr_11_2 w s
  | .rdSBcr_11_3 => Sys2Proof.Machine.execRdSBcr_11_3 s
  | .wrSBcr_11_0 w v => Sys2Proof.Machine.execWrSBcr_11_0 w v s
  | .wrSBcr_11_1 v => Sys2Proof.Machine.execWrSBcr_11_1 v s
  | .wrSBcr_11_2 w v => Sys2Proof.Machine.execWrSBcr_11_2 w v s
  | .wrSBcr_11_3 v => Sys2Proof.Machine.execWrSBcr_11_3 v s
  | .rdSChcr_11 => Sys2Proof.Machine.execRdSChcr_11 s
  | .wrSChcr_11 v => Sys2Proof.Machine.execWrSChcr_11 v s
  | .rdSTadr_11 => Sys2Proof.Machine.execRdSTadr_11 s
  | .wrSTadr_11 v => Sys2Proof.Machine.execWrSTadr_11 v s
  | .rdSMadr_12 => Sys2Proof.Machine.execRdSMadr_12 s
  | .wrSMadr_12 v => Sys2Proof.Machine.execWrSMadr_12 v s
  | .rdSBcr_12_0 w => Sys2Proof.Machine.execRdSBcr_12_0 w s
  | .rdSBcr_12_1 => Sys2Proof.Machine.execRdSBcr_12_1 s
  | .rdSBcr_12_2 w => Sys2Proof.Machine.execRdSBcr_12_2 w s
  | .rdSBcr_12_3 => Sys2Proof.Machine.execRdSBcr_12_3 s
  | .wrSBcr_12_0 w v => Sys2Proof.Machine.execWrSBcr_12_0 w v s
  | .wrSBcr_12_1 v => Sys2Proof.Machine.execWrSBcr_12_1 v s
  | .wrSBcr_12_2 w v => Sys2Proof.Machine.execWrSBcr_12_2 w v s
  | .wrSBcr_12_3 v => Sys2Proof.Machine.execWrSBcr_12_3 v s
  | .rdSChcr_12 => Sys2Proof.Machine.execRdSChcr_12 s
  | .wrSChcr_12 v => Sys2Proof.Machine.execWrSChcr_12 v s
  | .rdSTadr_12 => Sys2Proof.Machine.execRdSTadr_12 s
  | .wrSTadr_12 v => Sys2Proof.Machine.execWrSTadr_12 v s
  | .rdSDpcr => Sys2Proof.Machine.execRdSDpcr s
  | .wrSDpcr v => Sys2Proof.Machine.execWrSDpcr v s
  | .rdSDicr => Sys2Proof.Machine.execRdSDicr s
  | .wrSDicr v => Sys2Proof.Machine.execWrSDicr v s
  | .rdSDpcr2 => Sys2Proof.Machine.execRdSDpcr2 s
  | .wrSDpcr2 v => Sys2Proof.Machine.execWrSDpcr2 v s
  | .rdSDicr2 => Sys2Proof.Machine.execRdSDicr2 s
  | .wrSDicr2 v => Sys2Proof.Machine.execWrSDicr2 v s
  | .rdSDmacen => Sys2Proof.Machine.execRdSDmacen s
  | .wrSDmacen v => Sys2Proof.Machine.execWrSDmacen v s
  | .rdSDmacinten => Sys2Proof.Machine.execRdSDmacinten s
  | .wrSDmacinten v => Sys2Proof.Machine.execWrSDmacinten v s
  | .pSrcTagRefe c t => Sys2Proof.Machine.execPSrcTagRefe c t s
  | .pSrcTagCnt c t => Sys2Proof.Machine.execPSrcTagCnt c t s
  | .pSrcTagNext c t => Sys2Proof.Machine.execPSrcTagNext c t s
  | .pSrcTagRef c t => Sys2Proof.Machine.execPSrcTagRef c t s
  | .pSrcTagRefs c t => Sys2Proof.Machine.execPSrcTagRefs c t s
  | .pSrcTagCall c t => Sys2Proof.Machine.execPSrcTagCall c t s
  | .pSrcTagRet c t => Sys2Proof.Machine.execPSrcTagRet c t s
  | .pSrcTagEnd c t => Sys2Proof.Machine.execPSrcTagEnd c t s
  | .pDstTagCnts c t => Sys2Proof.Machine.execPDstTagCnts c t s
  | .pDstTagCnt c t => Sys2Proof.Machine.execPDstTagCnt c t s
  | .pDstTagId2 c t => Sys2Proof.Machine.execPDstTagId2 c t s
  | .pDstTagId3 c t => Sys2Proof.Machine.execPDstTagId3 c t s
  | .pDstTagId4 c t => Sys2Proof.Machine.execPDstTagId4 c t s
  | .pDstTagId5 c t => Sys2Proof.Machine.execPDstTagId5 c t s
  | .pDstTagId6 c t => Sys2Proof.Machine.execPDstTagId6 c t s
  | .pDstTagEnd c t => Sys2Proof.Machine.execPDstTagEnd c t s
  | .sTag c t => Sys2Proof.Machine.execSTag c t s
  | .serviceP => Sys2Proof.Machine.execServiceP s
  | .serviceS => Sys2Proof.Machine.execServiceS s
  | .setRequestP c ready => Sys2Proof.Machine.execSetRequestP c ready s
  | .setRequestS c ready => Sys2Proof.Machine.execSetRequestS c ready s
  | .resetP => Sys2Proof.Machine.execResetP s
  | .resetS => Sys2Proof.Machine.execResetS s
  | .cpcond => Sys2Proof.Machine.execCpcond s

end Sys2Proof.Machine
end

