-- ==== Sys2Proof/Machine/Fetch.lean ====
section
/-! DEFINITION. What a step does with the first entry of the host's order: an operation is decoded and run, an operation
that is no instruction takes the fatal error of R109 or R111, an outside write is made. Also where the host's test word
is placed. -/

namespace Sys2Proof.Machine

/-- A register access that the common decode refuses (R109, R111, R190): the fatal error on the engine whose window holds
the address, no step if that engine is halted (R403), and nothing for the core outside both windows (R109). -/
def rejectAccess (err : DecodeError) (s : State) : Host.Outcome State Fault Refusal :=
  match err with
  | .outsideWindows a => .fault (.outsideWindows a)
  | .unmodelledRegister e a w k =>
    if halted e s then .next (s.respond .noStep)
    else .next (takeFatal e s s { fatalRecord e .unmodelledRegister (accessOp k) with
      address := some a, width := some w })
  | .unsupportedWidth r a w k =>
    if halted r.engine s then .next (s.respond .noStep)
    else .next (takeFatal r.engine s s { fatalRecord r.engine .unsupportedWidth (accessOp k) with
      channel := r.channel, register := some r, address := some a, width := some w })
where
  /-- The operation name of a register access (R400). -/
  accessOp : AccessKind → FatalOp
    | .read => .registerRead
    | .write => .registerWrite

/-- An operation on the core: decoded, then run or rejected (R180, R190). -/
def runOperation (o : Operation) (s : State) : Host.Outcome State Fault Refusal :=
  match decode o with
  | .ok i => exec i s
  | .error err => rejectAccess err s

/-- An entry of the host's order, already taken off the list. -/
def runPending (p : Pending) (s : State) : Host.Outcome State Fault Refusal :=
  match p with
  | .op o => runOperation o s
  | .memP a v => .next (s.setMemP (s.memP.writeQuad (busAddrP a).toNat v))
  | .memS a v => .next (s.setMemS (s.memS.writeWord (busAddrS a).toNat v))
  | .spr a v => .next (s.setSpr (s.spr.writeQuad (sprOffset a).toNat v))

/-- One step: the first entry of the host's order; with nothing pending, nothing happens (log 1). -/
def runStep (s : State) : Host.Outcome State Fault Refusal :=
  match s.pending with
  | [] => .next s
  | p :: rest => runPending p (s.setPending rest)

/-- An operation put before everything pending. -/
def pushOperation (o : Operation) (s : State) : State := s.setPending (.op o :: s.pending)

/-- An encoded instruction placed so that the next step runs it (log 2). An operation goes to the head of the pending
list. A tag is run by a service: an engine P tag is put in memory at the channel's TADR, an engine S tag likewise; the
channel is started in Chain mode with nothing left to move, its request flag and the enables set, and the service goes
to the head of the pending list. -/
def placeEncoding (e : Encoding) (s : State) : State :=
  match e with
  | .op o => pushOperation o s
  | .pTag _ c t =>
    let x := s.pch c
    let s1 := s.setPch c { x with chcr := 0x104, qwc := 0, hasTag := false, drq := true }
    let s2 := s1.setEngP { s1.engP with dCtrl := s1.engP.dCtrl ||| 1 }
    pushOperation .serviceP (s2.setMemP (s2.memP.writeQuad (busAddrP x.tadr).toNat t))
  | .sTag c w0 w1 =>
    let x := s.sch c
    let s1 := s.setSch c { x with chcr := 0x01000600, remaining := 0, hasTag := false, drq := true }
    let s2 := s1.setEngS { s1.engS with dmacen := s1.engS.dmacen ||| 1, dpcr := s1.engS.dpcr ||| 0x08888888, dpcr2 := s1.engS.dpcr2 ||| 0x00888888 }
    pushOperation .serviceS (s2.setMemS ((s2.memS.writeWord (busAddrS x.tadr).toNat w0).writeWord
      (busAddrS (x.tadr + 4)).toNat w1))

/-- The host's table word placed so that the next step runs it (Decode.lean's `tableEncoding`; log 2, log 16). -/
def placeTableWord (nbits w : Nat) (s : State) : State :=
  match tableEncoding nbits w with
  | some e => placeEncoding e s
  | none => s

end Sys2Proof.Machine
end

