-- ==== Sys2Proof/Machine/Step.lean ====
section
/-! DEFINITION. One step of the machine, and the host's way to place an instruction for the next step. -/

namespace Sys2Proof.Machine

/-- One step (Machine/Fetch.lean). -/
def step (s : State) : Host.Outcome State Fault Refusal := runStep s

/-- The state with a word of the opcode table placed where the next step takes its instruction (log 2, log 16). -/
def State.withFetchWord (s : State) (nbits w : Nat) : State := placeTableWord nbits w s

end Sys2Proof.Machine
end

