-- ==== Sys2Proof/Safety.lean ====
section
/-! DEFINITION. What a good state and a safe run are: the invariant every step keeps, the plain-storage registers of
R240, the states in which an engine is halted; and the terms the statements use for what an operation changes and what it
leaves alone. -/

namespace Sys2Proof.Machine

/-- An engine P channel is sound: the reserved bits of CHCR are 0 (R145), and a chain that has ended has a tag (R40,
R41, R298, R300). -/
def PChannel.sound (x : PChannel) : Bool := x.chcr &&& ~~~pChcrMask == 0 && (!x.chainEnded || x.hasTag)

/-- An engine S channel is sound: a chain that has ended has a tag, a tag interrupt ends its chain (R275), and a tag whose
segment is under way has words left (R348: the middle branch "is not reached by these rules"). -/
def SChannel.sound (x : SChannel) : Bool :=
  (!x.chainEnded || x.hasTag) && (!x.tagIrq || x.chainEnded) && (!x.hasTag || x.remaining != 0)

/-- A fault record of engine e is e's own, and its code is not INVARIANT (R402). -/
def faultSound (e : Engine) (f : Option FaultRecord) : Bool :=
  match f with
  | none => true
  | some r => r.engine == e && r.code != .invariant

/-- The invariant of the machine. -/
structure State.Inv (s : State) : Prop where
  /-- The channels of engine P are sound. -/
  pSound : ∀ c, (s.pch c).sound = true
  /-- The channels of engine S are sound. -/
  sSound : ∀ c, (s.sch c).sound = true
  /-- Engine P's master flag is what its sets give (R410, R412). -/
  pMaster : s.engP.master = masterP s.engP.cis s.engP.cim
  /-- Engine S's master flag is what its terms give (R415, R417). -/
  sMaster : s.engS.mif = masterS s.engS
  /-- The fault records are their own engine's and never INVARIANT (R402). -/
  pFault : faultSound .P s.engP.fault = true
  sFault : faultSound .S s.engS.fault = true
  /-- The memories are canonical and lie in their address spaces (R101, R102, R103). -/
  memP : s.memP.wf = true ∧ s.memP.below (2 ^ 32) = true
  memS : s.memS.wf = true ∧ s.memS.below (2 ^ 24) = true
  spr : s.spr.wf = true ∧ s.spr.below (2 ^ 14) = true

/-- The plain-storage registers: every one but D_STAT, DICR and DICR2 (R240). -/
def plainStorage : RegRef → Bool
  | .pWide .dStat => false
  | .sWide .dicr => false
  | .sWide .dicr2 => false
  | _ => true

/-- The value a full-width software read of a register returns (R192 to R239). -/
def regValue (s : State) : RegRef → Word
  | .pCh c .chcr => (s.pch c).chcr
  | .pCh c .madr => (s.pch c).madr
  | .pCh c .qwc => (s.pch c).qwc.setWidth 32
  | .pCh c .tadr => (s.pch c).tadr
  | .pCh c .asr0 => (s.pch c).asr0
  | .pCh c .asr1 => (s.pch c).asr1
  | .pCh c .sadr => (s.pch c).sadr.setWidth 32
  | .pWide .dCtrl => s.engP.dCtrl
  | .pWide .dStat => dStatValue s.engP.cis s.engP.cim
  | .pWide .dPcr => s.engP.dPcr
  | .sCh c .madr => (s.sch c).madr.setWidth 32
  | .sCh c .bcr => (s.sch c).bcr
  | .sCh c .chcr => (s.sch c).chcr
  | .sCh c .tadr => (s.sch c).tadr.setWidth 32
  | .sWide .dpcr => s.engS.dpcr
  | .sWide .dicr => dicrValue s.engS
  | .sWide .dpcr2 => s.engS.dpcr2
  | .sWide .dicr2 => dicr2Value s.engS
  | .sWide .dmacen => s.engS.dmacen
  | .sWide .dmacinten => s.engS.dmacinten

/-- The write mask of a plain-storage register (R142 to R155): the bits a software write stores. -/
def writeMask : RegRef → Word
  | .pCh _ .chcr => 0xFFFF01FD
  | .pCh _ .qwc => 0x0000FFFF
  | .pCh _ .sadr => 0x00003FFF
  | .sCh _ .madr => 0x00FFFFFF
  | .sCh _ .tadr => 0x00FFFFFF
  | _ => 0xFFFFFFFF

/-- A safe run is one in which no engine has taken a fatal error. -/
def State.unfaulted (s : State) : Bool := !halted .P s && !halted .S s

/-! ## Engines and operations -/

/-- The engine an operation belongs to (R19, R190); none for an access outside both windows (R109). -/
def operationEngine : Operation → Option Engine
  | .read a _ => windowOf a
  | .write a _ _ => windowOf a
  | .serviceP => some .P
  | .serviceS => some .S
  | .setRequestP _ _ => some .P
  | .setRequestS _ _ => some .S
  | .resetP => some .P
  | .resetS => some .S
  | .cpcond => some .P

/-- The engine an instruction belongs to: that of its encoded form. -/
def instrEngine (i : Instr) : Option Engine :=
  match encode i with
  | .op o => operationEngine o
  | .pTag _ _ _ => some .P
  | .sTag _ _ _ => some .S

/-- The state with engine S, its memory and its peers replaced. -/
def State.withS (s : State) (e : EngineS) (m : Memory) (p : Vector (List (PeerReply Word)) 13) : State :=
  { s with engS := e, memS := m, peersS := p }

/-- The state with engine P, its memory, the scratchpad and its peers replaced. -/
def State.withP (s : State) (e : EngineP) (m spr : Memory) (p : Vector (List (PeerReply Quad)) 10) : State :=
  { s with engP := e, memP := m, spr := spr, peersP := p }

/-- The state with a fault record of engine e and nothing else changed but the answer to the caller (R400, R404). -/
def State.faultedBy (s : State) (e : Engine) (r : FaultRecord) : State :=
  match e with
  | .P => { s with engP := { s.engP with fault := some r }, response := .fault r }
  | .S => { s with engS := { s.engS with fault := some r }, response := .fault r }

/-! ## What a service does -/

/-- Channel c is the one that SERVICE_P services (R290, R291). -/
structure ServesP (s : State) (c : PChan) : Prop where
  sound : s.engP.fault = none
  enable : s.engP.dCtrl.getLsbD 0 = true
  start : (s.pch c).chcr.getLsbD 8 = true
  request : (s.pch c).drq = true
  first : ∀ d : PChan, d < c → ¬((s.pch d).chcr.getLsbD 8 = true ∧ (s.pch d).drq = true)

/-- The enable bit of channel c (R340): bit 4c+3 of DPCR up to channel 6, bit 4(c-7)+3 of DPCR2 from channel 7. -/
def channelEnable (s : State) (c : SChan) : Bool :=
  if c.val ≤ 6 then s.engS.dpcr.getLsbD (4 * c.val + 3) else s.engS.dpcr2.getLsbD (4 * (c.val - 7) + 3)

/-- Channel c is the one that SERVICE_S services (R340, R341). -/
structure ServesS (s : State) (c : SChan) : Prop where
  sound : s.engS.fault = none
  enable : s.engS.dmacen.getLsbD 0 = true
  start : (s.sch c).chcr.getLsbD 24 = true
  request : (s.sch c).drq = true
  allowed : channelEnable s c = true
  first : ∀ d : SChan, d < c →
    ¬((s.sch d).chcr.getLsbD 24 = true ∧ (s.sch d).drq = true ∧ channelEnable s d = true)

/-- What a sub-step of channel c of engine P leaves in t, from s, when it leaves the channel as x, then completes it if
`fin` (R304, R410, R411), with `calls` its calls of the ports in order. The memory and the scratchpad are each statement's
own. -/
structure EndsP (c : PChan) (x : PChannel) (fin : Bool) (calls : List Event) (s t : State) : Prop where
  /-- Completion clears STR, hasTag and chainEnded, and nothing else of the channel (R304). -/
  channel : t.pch c =
    if fin then { x with chcr := x.chcr &&& 0xFFFFFEFF, hasTag := false, chainEnded := false } else x
  others : ∀ d, d ≠ c → t.pch d = s.pch d
  /-- Completion sets the channel's pending bit, whatever the mask is (R304). -/
  cis : ∀ i, t.engP.cis.getLsbD i = (s.engP.cis.getLsbD i || (fin && i == c.val))
  cim : t.engP.cim = s.engP.cim
  dCtrl : t.engP.dCtrl = s.engP.dCtrl
  dPcr : t.engP.dPcr = s.engP.dPcr
  fault : t.engP.fault = s.engP.fault
  /-- The master flag is evaluated again on completion only (R410, R412). -/
  master : t.engP.master = if fin then t.engP.cis &&& t.engP.cim != 0 else s.engP.master
  /-- The calls of the ports, and the raise of a rising master flag (R411). -/
  log : t.log = s.log ++ calls ++ if t.engP.master && !s.engP.master then [.intcRaise .P] else []
  response : t.response = .progress c.val
  engS : t.engS = s.engS
  cfg : t.cfg = s.cfg
  memS : t.memS = s.memS
  peersP : ∀ d, d ≠ c → t.peersP[d] = s.peersP[d]
  peersS : t.peersS = s.peersS
  pending : t.pending = s.pending

/-- The same for channel c of engine S (R356, R415, R416, R418). -/
structure EndsS (c : SChan) (x : SChannel) (fin : Bool) (calls : List Event) (s t : State) : Prop where
  /-- Completion clears STR and the hidden state of the channel (R356; that a slice's clears a tag's state that a rewrite
  of the mode left is the model's choice, log 25). -/
  channel : t.sch c =
    if fin then
      { x with
        chcr := x.chcr &&& 0xFEFFFFFF
        hasTag := false
        chainEnded := false
        active := false
        remaining := 0
        tagWords := false
        tagBuf := 0
        tagIrq := false }
    else x
  others : ∀ d, d ≠ c → t.sch d = s.sch d
  /-- A completion pends its channel only under its mask bit (R356, R418). -/
  ip1 : ∀ i, t.engS.ip1.getLsbD i = (s.engS.ip1.getLsbD i || (fin && i == c.val && s.engS.im1.getLsbD i))
  ip2 : ∀ i, t.engS.ip2.getLsbD i = (s.engS.ip2.getLsbD i || (fin && i + 7 == c.val && s.engS.im2.getLsbD i))
  /-- The tag-interrupt bit is set by the completion of a chain whose last tag had its IRQ bit, whatever the masks are
  (R356, R418); by a slice's never (R345; log 25). -/
  tip : ∀ i, t.engS.tip.getLsbD i =
    (s.engS.tip.getLsbD i || (fin && i == c.val && (x.tagIrq && x.chcr.extractLsb' 9 2 != 1)))
  enables : t.engS.dpcr = s.engS.dpcr ∧ t.engS.dpcr2 = s.engS.dpcr2 ∧ t.engS.dmacen = s.engS.dmacen
  masks : t.engS.be = s.engS.be ∧ t.engS.im1 = s.engS.im1 ∧ t.engS.mie = s.engS.mie ∧ t.engS.im2 = s.engS.im2 ∧
    t.engS.dmacinten = s.engS.dmacinten
  fault : t.engS.fault = s.engS.fault
  /-- The master flag is evaluated again on completion only (R415, R417). -/
  mif : t.engS.mif =
    if fin then
      t.engS.be || (t.engS.mie && ((t.engS.ip1 != 0) || (t.engS.ip2 != 0))) || (t.engS.tip != 0)
    else s.engS.mif
  /-- The calls of the ports, and the raise of a rising master flag while MID is clear (R416). -/
  log : t.log = s.log ++ calls ++
    if t.engS.mif && !s.engS.mif && !s.engS.dmacinten.getLsbD 1 then [.intcRaise .S] else []
  response : t.response = .progress c.val
  engP : t.engP = s.engP
  cfg : t.cfg = s.cfg
  memP : t.memP = s.memP
  spr : t.spr = s.spr
  peersS : ∀ d, d ≠ c → t.peersS[d] = s.peersS[d]
  peersP : t.peersP = s.peersP
  pending : t.pending = s.pending

/-- Channel c of engine P after a unit moved (R300): the address and the count; a segment that is over leaves no tag. -/
def PChannel.unitMoved (x : PChannel) : PChannel :=
  { x with
    madr := x.madr + 16
    qwc := x.qwc - 1
    hasTag := x.hasTag && x.qwc != 1 }

/-- That unit completes the channel (R300): it is the last, and the mode is Normal or the chain has ended. -/
def PChannel.unitCompletes (x : PChannel) : Bool :=
  x.qwc == 1 && (x.chcr.extractLsb' 2 2 == 0 || x.chainEnded)

/-- Channel c of engine S after a word moved (R350). -/
def SChannel.wordMoved (x : SChannel) : SChannel :=
  { x with
    madr := x.madr + 4
    remaining := x.remaining - 1
    hasTag := x.hasTag && x.remaining != 1 }

/-- That word completes the channel (R350): it is the last, and the mode is Slice or the chain has ended. -/
def SChannel.wordCompletes (x : SChannel) : Bool :=
  x.remaining == 1 && (x.chcr.extractLsb' 9 2 == 1 || x.chainEnded)

/-- A slice that has not been activated is activated by its first service (R344, R346); any other channel is as it is. -/
def SChannel.started (x : SChannel) : SChannel :=
  if x.chcr.extractLsb' 9 2 == 1 && !x.active then
    { x with
      remaining := BitVec.ofNat 32 ((x.bcr.extractLsb' 0 16).toNat * (x.bcr.extractLsb' 16 16).toNat)
      active := true }
  else x

/-- Channel c of engine P after a decode (R252, R296, R298): the tag's header half cached, the segment loaded, and no tag
held if the segment is empty. -/
def PChannel.decoded (x : PChannel) (header : BitVec 16) (madr tadr : Word) (qwc : BitVec 16) (ended : Bool) :
    PChannel :=
  { x with
    chcr := header ++ x.chcr.setWidth 16
    madr := madr
    tadr := tadr
    qwc := qwc
    chainEnded := ended
    hasTag := qwc != 0 }

/-- Bits 31:16 of a tag with this ID (R157, R252). -/
def tagHeader (t : PTag) (id : BitVec 3) : BitVec 16 := BitVec.ofBool t.irq ++ id ++ t.pce ++ t.reserved

/-- The low 64 bits of a tag with this ID (R157, R400). -/
def tagLow (t : PTag) (id : BitVec 3) : BitVec 64 := t.addr ++ tagHeader t id ++ t.qwc

/-- A tag row of the source family decodes on channel c to these values (R250, R296, R297): for every unhalted state in
which the tag's payload is not to be forwarded, or the channel's peer takes it. -/
def SourceDecodes (i : Instr) (c : PChan) (t : PTag) (id : BitVec 3) (madr tadr : State → Word)
    (ended : State → Bool) : Prop :=
  ∀ s : State, s.engP.fault = none →
    ((s.pch c).chcr.getLsbD 6 = true → s.cfg.tteFwd[c] = true ∧ (answerP s c).accepts = true) →
    ∃ u, exec i s = .next u ∧
      EndsP c
        { (s.pch c).decoded (tagHeader t id) (madr s) (tadr s) t.qwc (ended s) with
          drq := if (s.pch c).chcr.getLsbD 6 then (answerP s c).request.getD (s.pch c).drq else (s.pch c).drq }
        (t.qwc == 0 && ended s)
        (if (s.pch c).chcr.getLsbD 6 then [.pushTagP c t.payload true] else []) s u ∧
      (∀ a, u.memP.readByte a = s.memP.readByte a) ∧ (∀ a, u.spr.readByte a = s.spr.readByte a)

/-- A tag row of the destination family decodes on channel c to these values (R263, R296), for every unhalted state: TADR
is as before and nothing is forwarded (R297). -/
def DestinationDecodes (i : Instr) (c : PChan) (t : PTag) (id : BitVec 3) (ended : State → Bool) : Prop :=
  ∀ s : State, s.engP.fault = none →
    ∃ u, exec i s = .next u ∧
      EndsP c ((s.pch c).decoded (tagHeader t id) t.addr (s.pch c).tadr t.qwc (ended s))
        (t.qwc == 0 && ended s) [] s u ∧
      (∀ a, u.memP.readByte a = s.memP.readByte a) ∧ (∀ a, u.spr.readByte a = s.spr.readByte a)

/-- The engine P peer an event is a call of. -/
def eventPeerP : Event → Option PChan
  | .pushP c _ _ => some c
  | .popP c _ => some c
  | .pushTagP c _ _ => some c
  | _ => none

/-- The engine S peer an event is a call of. -/
def eventPeerS : Event → Option SChan
  | .pushS c _ _ => some c
  | .popS c _ => some c
  | _ => none

/-- The quadword an event gives to the peer of channel c, if the peer takes it. -/
def receivedP (c : PChan) : Event → Option Quad
  | .pushP d v true => if d = c then some v else none
  | _ => none

/-- The fault record of a service of channel c (R400, R401): what every record of a service has. -/
def serviceFault (e : Engine) (code : FatalCode) (c : Nat) (v : Option FatalValue) (op : FatalOp) : FaultRecord where
  engine := e
  code := code
  channel := some c
  value := v
  operation := op
  register := none
  address := none
  width := none

/-- What a service of channel c of engine P does that fetches the tag t of a variant the core does not model, after `calls`
to the ports (R250, R296, R401, R404): UNMODELLED_TAG with the low 64 bits of the tag, in the engine, the memory and the
scratchpad as they were before the service. -/
def UnmodelledTagFatal (s : State) (c : PChan) (t : Quad) (calls : List Event) : Prop :=
  ∃ u r, exec .serviceP s = .next u ∧
    r = serviceFault .P .unmodelledTag c.val (some (.tag (t.extractLsb' 0 64))) .tagDecode ∧
    u.engP = { s.engP with fault := some r } ∧ u.engS = s.engS ∧ u.response = .fault r ∧ u.log = s.log ++ calls ∧
    (∀ a, u.memP.readByte a = s.memP.readByte a) ∧ (∀ a, u.spr.readByte a = s.spr.readByte a)

/-- The state after n services of engine P in a row, each of which answers a next state. -/
def servicesP : Nat → State → Option State
  | 0, s => some s
  | n + 1, s =>
    match exec .serviceP s with
    | .next t => servicesP n t
    | .fault _ => none
    | .refused _ => none

end Sys2Proof.Machine
end

