-- ==== Sys2Proof/WellFormed.lean ====
section
/-! DEFINITION. When an instruction is well formed. -/

namespace Sys2Proof

/-- A value fits the access width (R190). -/
def valueFits (w : AccessWidth) (v : Word) : Bool :=
  match w with
  | .w8 => v.toNat < 2 ^ 8
  | .w16 => v.toNat < 2 ^ 16
  | .w32 => true

/-- A value fits a lane of BCR (R190). -/
def laneFits (w : LaneWidth) (v : BitVec 16) : Bool :=
  match w with
  | .w8 => v.toNat < 2 ^ 8
  | .w16 => true

/-- The tag family of an engine P channel (R253): a property of the channel, not of the tag. -/
def familyOfP (cfg : Config) (c : PChan) : TagFamily :=
  if cfg.tagFromPeerP[c] then .destination else .source

/-- The checks on an instruction, for one configuration: a write's value has the access width (R190: "For a width-8
access, v is 8 bits"), and an engine P tag's family is the one its channel selects (R253). -/
def Instr.wellFormed (cfg : Config) : Instr → Bool
  | .rdPChcr_0 => true
  | .wrPChcr_0 _ => true
  | .rdPMadr_0 => true
  | .wrPMadr_0 _ => true
  | .rdPQwc_0 => true
  | .wrPQwc_0 _ => true
  | .rdPTadr_0 => true
  | .wrPTadr_0 _ => true
  | .rdPAsr0_0 => true
  | .wrPAsr0_0 _ => true
  | .rdPAsr1_0 => true
  | .wrPAsr1_0 _ => true
  | .rdPSadr_0 => true
  | .wrPSadr_0 _ => true
  | .rdPChcr_1 => true
  | .wrPChcr_1 _ => true
  | .rdPMadr_1 => true
  | .wrPMadr_1 _ => true
  | .rdPQwc_1 => true
  | .wrPQwc_1 _ => true
  | .rdPTadr_1 => true
  | .wrPTadr_1 _ => true
  | .rdPAsr0_1 => true
  | .wrPAsr0_1 _ => true
  | .rdPAsr1_1 => true
  | .wrPAsr1_1 _ => true
  | .rdPSadr_1 => true
  | .wrPSadr_1 _ => true
  | .rdPChcr_2 => true
  | .wrPChcr_2 _ => true
  | .rdPMadr_2 => true
  | .wrPMadr_2 _ => true
  | .rdPQwc_2 => true
  | .wrPQwc_2 _ => true
  | .rdPTadr_2 => true
  | .wrPTadr_2 _ => true
  | .rdPAsr0_2 => true
  | .wrPAsr0_2 _ => true
  | .rdPAsr1_2 => true
  | .wrPAsr1_2 _ => true
  | .rdPSadr_2 => true
  | .wrPSadr_2 _ => true
  | .rdPChcr_3 => true
  | .wrPChcr_3 _ => true
  | .rdPMadr_3 => true
  | .wrPMadr_3 _ => true
  | .rdPQwc_3 => true
  | .wrPQwc_3 _ => true
  | .rdPTadr_3 => true
  | .wrPTadr_3 _ => true
  | .rdPAsr0_3 => true
  | .wrPAsr0_3 _ => true
  | .rdPAsr1_3 => true
  | .wrPAsr1_3 _ => true
  | .rdPSadr_3 => true
  | .wrPSadr_3 _ => true
  | .rdPChcr_4 => true
  | .wrPChcr_4 _ => true
  | .rdPMadr_4 => true
  | .wrPMadr_4 _ => true
  | .rdPQwc_4 => true
  | .wrPQwc_4 _ => true
  | .rdPTadr_4 => true
  | .wrPTadr_4 _ => true
  | .rdPAsr0_4 => true
  | .wrPAsr0_4 _ => true
  | .rdPAsr1_4 => true
  | .wrPAsr1_4 _ => true
  | .rdPSadr_4 => true
  | .wrPSadr_4 _ => true
  | .rdPChcr_5 => true
  | .wrPChcr_5 _ => true
  | .rdPMadr_5 => true
  | .wrPMadr_5 _ => true
  | .rdPQwc_5 => true
  | .wrPQwc_5 _ => true
  | .rdPTadr_5 => true
  | .wrPTadr_5 _ => true
  | .rdPAsr0_5 => true
  | .wrPAsr0_5 _ => true
  | .rdPAsr1_5 => true
  | .wrPAsr1_5 _ => true
  | .rdPSadr_5 => true
  | .wrPSadr_5 _ => true
  | .rdPChcr_6 => true
  | .wrPChcr_6 _ => true
  | .rdPMadr_6 => true
  | .wrPMadr_6 _ => true
  | .rdPQwc_6 => true
  | .wrPQwc_6 _ => true
  | .rdPTadr_6 => true
  | .wrPTadr_6 _ => true
  | .rdPAsr0_6 => true
  | .wrPAsr0_6 _ => true
  | .rdPAsr1_6 => true
  | .wrPAsr1_6 _ => true
  | .rdPSadr_6 => true
  | .wrPSadr_6 _ => true
  | .rdPChcr_7 => true
  | .wrPChcr_7 _ => true
  | .rdPMadr_7 => true
  | .wrPMadr_7 _ => true
  | .rdPQwc_7 => true
  | .wrPQwc_7 _ => true
  | .rdPTadr_7 => true
  | .wrPTadr_7 _ => true
  | .rdPAsr0_7 => true
  | .wrPAsr0_7 _ => true
  | .rdPAsr1_7 => true
  | .wrPAsr1_7 _ => true
  | .rdPSadr_7 => true
  | .wrPSadr_7 _ => true
  | .rdPChcr_8 => true
  | .wrPChcr_8 _ => true
  | .rdPMadr_8 => true
  | .wrPMadr_8 _ => true
  | .rdPQwc_8 => true
  | .wrPQwc_8 _ => true
  | .rdPTadr_8 => true
  | .wrPTadr_8 _ => true
  | .rdPAsr0_8 => true
  | .wrPAsr0_8 _ => true
  | .rdPAsr1_8 => true
  | .wrPAsr1_8 _ => true
  | .rdPSadr_8 => true
  | .wrPSadr_8 _ => true
  | .rdPChcr_9 => true
  | .wrPChcr_9 _ => true
  | .rdPMadr_9 => true
  | .wrPMadr_9 _ => true
  | .rdPQwc_9 => true
  | .wrPQwc_9 _ => true
  | .rdPTadr_9 => true
  | .wrPTadr_9 _ => true
  | .rdPAsr0_9 => true
  | .wrPAsr0_9 _ => true
  | .rdPAsr1_9 => true
  | .wrPAsr1_9 _ => true
  | .rdPSadr_9 => true
  | .wrPSadr_9 _ => true
  | .rdPDCtrl => true
  | .wrPDCtrl _ => true
  | .rdPDStat => true
  | .wrPDStat _ => true
  | .rdPDPcr => true
  | .wrPDPcr _ => true
  | .rdSMadr_0 => true
  | .wrSMadr_0 _ => true
  | .rdSBcr_0_0 _ => true
  | .rdSBcr_0_1 => true
  | .rdSBcr_0_2 _ => true
  | .rdSBcr_0_3 => true
  | .wrSBcr_0_0 w v => valueFits w v
  | .wrSBcr_0_1 _ => true
  | .wrSBcr_0_2 w v => laneFits w v
  | .wrSBcr_0_3 _ => true
  | .rdSChcr_0 => true
  | .wrSChcr_0 _ => true
  | .rdSTadr_0 => true
  | .wrSTadr_0 _ => true
  | .rdSMadr_1 => true
  | .wrSMadr_1 _ => true
  | .rdSBcr_1_0 _ => true
  | .rdSBcr_1_1 => true
  | .rdSBcr_1_2 _ => true
  | .rdSBcr_1_3 => true
  | .wrSBcr_1_0 w v => valueFits w v
  | .wrSBcr_1_1 _ => true
  | .wrSBcr_1_2 w v => laneFits w v
  | .wrSBcr_1_3 _ => true
  | .rdSChcr_1 => true
  | .wrSChcr_1 _ => true
  | .rdSTadr_1 => true
  | .wrSTadr_1 _ => true
  | .rdSMadr_2 => true
  | .wrSMadr_2 _ => true
  | .rdSBcr_2_0 _ => true
  | .rdSBcr_2_1 => true
  | .rdSBcr_2_2 _ => true
  | .rdSBcr_2_3 => true
  | .wrSBcr_2_0 w v => valueFits w v
  | .wrSBcr_2_1 _ => true
  | .wrSBcr_2_2 w v => laneFits w v
  | .wrSBcr_2_3 _ => true
  | .rdSChcr_2 => true
  | .wrSChcr_2 _ => true
  | .rdSTadr_2 => true
  | .wrSTadr_2 _ => true
  | .rdSMadr_3 => true
  | .wrSMadr_3 _ => true
  | .rdSBcr_3_0 _ => true
  | .rdSBcr_3_1 => true
  | .rdSBcr_3_2 _ => true
  | .rdSBcr_3_3 => true
  | .wrSBcr_3_0 w v => valueFits w v
  | .wrSBcr_3_1 _ => true
  | .wrSBcr_3_2 w v => laneFits w v
  | .wrSBcr_3_3 _ => true
  | .rdSChcr_3 => true
  | .wrSChcr_3 _ => true
  | .rdSTadr_3 => true
  | .wrSTadr_3 _ => true
  | .rdSMadr_4 => true
  | .wrSMadr_4 _ => true
  | .rdSBcr_4_0 _ => true
  | .rdSBcr_4_1 => true
  | .rdSBcr_4_2 _ => true
  | .rdSBcr_4_3 => true
  | .wrSBcr_4_0 w v => valueFits w v
  | .wrSBcr_4_1 _ => true
  | .wrSBcr_4_2 w v => laneFits w v
  | .wrSBcr_4_3 _ => true
  | .rdSChcr_4 => true
  | .wrSChcr_4 _ => true
  | .rdSTadr_4 => true
  | .wrSTadr_4 _ => true
  | .rdSMadr_5 => true
  | .wrSMadr_5 _ => true
  | .rdSBcr_5_0 _ => true
  | .rdSBcr_5_1 => true
  | .rdSBcr_5_2 _ => true
  | .rdSBcr_5_3 => true
  | .wrSBcr_5_0 w v => valueFits w v
  | .wrSBcr_5_1 _ => true
  | .wrSBcr_5_2 w v => laneFits w v
  | .wrSBcr_5_3 _ => true
  | .rdSChcr_5 => true
  | .wrSChcr_5 _ => true
  | .rdSTadr_5 => true
  | .wrSTadr_5 _ => true
  | .rdSMadr_6 => true
  | .wrSMadr_6 _ => true
  | .rdSBcr_6_0 _ => true
  | .rdSBcr_6_1 => true
  | .rdSBcr_6_2 _ => true
  | .rdSBcr_6_3 => true
  | .wrSBcr_6_0 w v => valueFits w v
  | .wrSBcr_6_1 _ => true
  | .wrSBcr_6_2 w v => laneFits w v
  | .wrSBcr_6_3 _ => true
  | .rdSChcr_6 => true
  | .wrSChcr_6 _ => true
  | .rdSTadr_6 => true
  | .wrSTadr_6 _ => true
  | .rdSMadr_7 => true
  | .wrSMadr_7 _ => true
  | .rdSBcr_7_0 _ => true
  | .rdSBcr_7_1 => true
  | .rdSBcr_7_2 _ => true
  | .rdSBcr_7_3 => true
  | .wrSBcr_7_0 w v => valueFits w v
  | .wrSBcr_7_1 _ => true
  | .wrSBcr_7_2 w v => laneFits w v
  | .wrSBcr_7_3 _ => true
  | .rdSChcr_7 => true
  | .wrSChcr_7 _ => true
  | .rdSTadr_7 => true
  | .wrSTadr_7 _ => true
  | .rdSMadr_8 => true
  | .wrSMadr_8 _ => true
  | .rdSBcr_8_0 _ => true
  | .rdSBcr_8_1 => true
  | .rdSBcr_8_2 _ => true
  | .rdSBcr_8_3 => true
  | .wrSBcr_8_0 w v => valueFits w v
  | .wrSBcr_8_1 _ => true
  | .wrSBcr_8_2 w v => laneFits w v
  | .wrSBcr_8_3 _ => true
  | .rdSChcr_8 => true
  | .wrSChcr_8 _ => true
  | .rdSTadr_8 => true
  | .wrSTadr_8 _ => true
  | .rdSMadr_9 => true
  | .wrSMadr_9 _ => true
  | .rdSBcr_9_0 _ => true
  | .rdSBcr_9_1 => true
  | .rdSBcr_9_2 _ => true
  | .rdSBcr_9_3 => true
  | .wrSBcr_9_0 w v => valueFits w v
  | .wrSBcr_9_1 _ => true
  | .wrSBcr_9_2 w v => laneFits w v
  | .wrSBcr_9_3 _ => true
  | .rdSChcr_9 => true
  | .wrSChcr_9 _ => true
  | .rdSTadr_9 => true
  | .wrSTadr_9 _ => true
  | .rdSMadr_10 => true
  | .wrSMadr_10 _ => true
  | .rdSBcr_10_0 _ => true
  | .rdSBcr_10_1 => true
  | .rdSBcr_10_2 _ => true
  | .rdSBcr_10_3 => true
  | .wrSBcr_10_0 w v => valueFits w v
  | .wrSBcr_10_1 _ => true
  | .wrSBcr_10_2 w v => laneFits w v
  | .wrSBcr_10_3 _ => true
  | .rdSChcr_10 => true
  | .wrSChcr_10 _ => true
  | .rdSTadr_10 => true
  | .wrSTadr_10 _ => true
  | .rdSMadr_11 => true
  | .wrSMadr_11 _ => true
  | .rdSBcr_11_0 _ => true
  | .rdSBcr_11_1 => true
  | .rdSBcr_11_2 _ => true
  | .rdSBcr_11_3 => true
  | .wrSBcr_11_0 w v => valueFits w v
  | .wrSBcr_11_1 _ => true
  | .wrSBcr_11_2 w v => laneFits w v
  | .wrSBcr_11_3 _ => true
  | .rdSChcr_11 => true
  | .wrSChcr_11 _ => true
  | .rdSTadr_11 => true
  | .wrSTadr_11 _ => true
  | .rdSMadr_12 => true
  | .wrSMadr_12 _ => true
  | .rdSBcr_12_0 _ => true
  | .rdSBcr_12_1 => true
  | .rdSBcr_12_2 _ => true
  | .rdSBcr_12_3 => true
  | .wrSBcr_12_0 w v => valueFits w v
  | .wrSBcr_12_1 _ => true
  | .wrSBcr_12_2 w v => laneFits w v
  | .wrSBcr_12_3 _ => true
  | .rdSChcr_12 => true
  | .wrSChcr_12 _ => true
  | .rdSTadr_12 => true
  | .wrSTadr_12 _ => true
  | .rdSDpcr => true
  | .wrSDpcr _ => true
  | .rdSDicr => true
  | .wrSDicr _ => true
  | .rdSDpcr2 => true
  | .wrSDpcr2 _ => true
  | .rdSDicr2 => true
  | .wrSDicr2 _ => true
  | .rdSDmacen => true
  | .wrSDmacen _ => true
  | .rdSDmacinten => true
  | .wrSDmacinten _ => true
  | .pSrcTagRefe c _ => familyOfP cfg c == .source
  | .pSrcTagCnt c _ => familyOfP cfg c == .source
  | .pSrcTagNext c _ => familyOfP cfg c == .source
  | .pSrcTagRef c _ => familyOfP cfg c == .source
  | .pSrcTagRefs c _ => familyOfP cfg c == .source
  | .pSrcTagCall c _ => familyOfP cfg c == .source
  | .pSrcTagRet c _ => familyOfP cfg c == .source
  | .pSrcTagEnd c _ => familyOfP cfg c == .source
  | .pDstTagCnts c _ => familyOfP cfg c == .destination
  | .pDstTagCnt c _ => familyOfP cfg c == .destination
  | .pDstTagId2 c _ => familyOfP cfg c == .destination
  | .pDstTagId3 c _ => familyOfP cfg c == .destination
  | .pDstTagId4 c _ => familyOfP cfg c == .destination
  | .pDstTagId5 c _ => familyOfP cfg c == .destination
  | .pDstTagId6 c _ => familyOfP cfg c == .destination
  | .pDstTagEnd c _ => familyOfP cfg c == .destination
  | .sTag _ _ => true
  | .serviceP => true
  | .serviceS => true
  | .setRequestP _ _ => true
  | .setRequestS _ _ => true
  | .resetP => true
  | .resetS => true
  | .cpcond => true

end Sys2Proof
end

