-- ==== Sys2Proof/Certificates/Slice0/Obligations.lean ====
section
/-! DEFINITION. The statements for the provers, from the numbered rules of spec/. Each docstring names the rules. Where a
statement rests on a choice of the model, it names the log entry (notes/assumptions). -/

open Sys2Proof Sys2Proof.Machine

/-! ## Encodings -/

/-- Decoding the encoded form of a well-formed instruction gives the instruction back: the 340 register rows, the tag
rows and the port rows (R107, R108, R157 to R161, R180, R181, R190). -/
def Obligations.DecodeOfEncodeIsIdentity : Prop :=
  ∀ (cfg : Config) (i : Instr), i.wellFormed cfg = true → decodeEncoding (encode i) = .ok i

/-- Encoding what was decoded gives the encoded form back: an operation whose write value has the access width (R190),
and every tag, no bit of which is dropped (R157, R160). -/
def Obligations.EncodeOfDecodeIsIdentity : Prop :=
  (∀ (o : Operation) (i : Instr), decode o = .ok i →
    (∀ a w v, o = .write a w v → valueFits w v = true) → encode i = .op o) ∧
  (∀ (fam : TagFamily) (c : PChan) (t : Quad), encode (decodePTag fam c t) = .pTag fam c t) ∧
  (∀ (c : SChan) (w0 w1 : Word), encode (decodeSTag c w0 w1) = .sTag c w0 w1)

/-- The decoder yields only well-formed instructions: write values of the access width (R190), and tags of the family
that their channel selects (R253). -/
def Obligations.DecodeYieldsWellFormed : Prop :=
  ∀ cfg : Config,
    (∀ (o : Operation) (i : Instr), decode o = .ok i → i.wellFormed cfg = true) ∧
    (∀ (c : PChan) (t : Quad), (decodePTag (familyOfP cfg c) c t).wellFormed cfg = true) ∧
    (∀ (c : SChan) (w0 w1 : Word), (decodeSTag c w0 w1).wellFormed cfg = true)

/-- A few words, written from the spec's tables, decode to the instructions they stand for (R107, R108, R157 to R160). -/
def Obligations.SampleWordsDecode : Prop :=
  decode (.write 0x1000A000 .w32 0x00000105) = .ok (.wrPChcr_2 0x00000105) ∧
  decode (.read 0x1000E010 .w32) = .ok .rdPDStat ∧
  decode (.write 0x1F8010A6 .w16 0x0002) = .ok (.wrSBcr_2_2 .w16 2) ∧
  decode (.read 0x1F801574 .w32) = .ok .rdSDicr2 ∧
  decodePTag .source 6 0x0000800030000002 = .pSrcTagRef 6 ⟨2, 0, 0, false, 0x8000, 0⟩ ∧
  decodePTag .destination 5 0x0000500070000001 = .pDstTagEnd 5 ⟨1, 0, 0, false, 0x5000, 0⟩ ∧
  decodeSTag 9 0xC0005000 0x00000001 = .sTag 9 ⟨0x5000, 0, true, true, 1⟩

/-- No two registers share an address; each lies in its engine's window, on a word boundary (R107, R108). -/
def Obligations.RegisterMapIsInjective : Prop :=
  (∀ r r' : RegRef, r.address = r'.address → r = r') ∧
  (∀ r : RegRef, r.address % 4 = 0 ∧ windowOf (BitVec.ofNat 32 r.address) = some r.engine ∧
    windowOf (BitVec.ofNat 32 (r.address + 3)) = some r.engine)

/-- An access to a word of an engine's window that is no register of it is Fatal(UNMODELLED_REGISTER) on that engine,
with the address, the width and the kind in the record, and nothing else changed (R109, R190, R400, R401). -/
def Obligations.UnmappedWordsAreFatal : Prop :=
  ∀ (s : State) (a : Word) (w : AccessWidth) (v : Word) (e : Engine), windowOf a = some e → faultOf e s = none →
    (∀ r : RegRef, r.engine = e → r.address ≠ wordAddress a) →
    runOperation (.read a w) s =
      .next (s.faultedBy e ⟨e, .unmodelledRegister, none, none, .registerRead, none, some a, some w⟩) ∧
    runOperation (.write a w v) s =
      .next (s.faultedBy e ⟨e, .unmodelledRegister, none, none, .registerWrite, none, some a, some w⟩)

/-- An access to a register at a width or byte offset it does not take is Fatal(UNSUPPORTED_WIDTH) on its engine, naming
the register, its channel, the address, the width and the kind (R111, R190). Only BCR takes 16 bits at even offsets and
8 bits anywhere. -/
def Obligations.UnsupportedWidthsAreFatal : Prop :=
  ∀ (s : State) (r : RegRef) (a : Word) (w : AccessWidth) (v : Word),
    r.address = wordAddress a → faultOf r.engine s = none →
    ¬(w = .w32 ∧ a.toNat % 4 = 0) →
    ¬((∃ c, r = .sCh c .bcr) ∧ (w = .w8 ∨ (w = .w16 ∧ a.toNat % 2 = 0))) →
    runOperation (.read a w) s =
      .next (s.faultedBy r.engine ⟨r.engine, .unsupportedWidth, r.channel, none, .registerRead, some r, some a, some w⟩) ∧
    runOperation (.write a w v) s =
      .next (s.faultedBy r.engine ⟨r.engine, .unsupportedWidth, r.channel, none, .registerWrite, some r, some a, some w⟩)

/-! ## Steps -/

/-- A step takes the first entry of the host's order off the list and runs it on the rest, as `runOperation` does: where it
decodes to i, that is exec of i; where it does not, the rejected accesses that other statements give (R19, R116). With
nothing listed a step changes nothing. The list is the model's choice (log 1); an access outside both windows, which never
reaches the core (R109), stops the model (log 14). -/
def Obligations.StepRunsTheDecodedOperation : Prop :=
  ∀ s : State,
    (∀ o rest, s.pending = .op o :: rest →
      step s = runOperation o { s with pending := rest } ∧
      (∀ i, decode o = .ok i → step s = exec i { s with pending := rest }) ∧
      (∀ a w v, o = .read a w ∨ o = .write a w v → windowOf a = none → step s = .fault (.outsideWindows a))) ∧
    (s.pending = [] → step s = .next s)

/-- A write by another agent stores its unit, aligned, byte i of the unit at the address plus i, and changes no other byte
and nothing of the core (R105). That such writes stand in the host's order is the model's choice (log 22); R120 has them
seen by later reads. Byte i of a unit read is the byte at the address plus i, for every memory (R105). -/
def Obligations.OutsideWritesStoreOneUnit : Prop :=
  (∀ (s : State) (rest : List Pending),
    (∀ a v, s.pending = .memP a v :: rest → s.memP.wf = true →
      ∃ m, step s = .next { s with pending := rest, memP := m } ∧ m.readQuad (busAddrP a).toNat = v ∧
        (∀ i, i < 16 → m.readByte ((busAddrP a).toNat + i) = v.extractLsb' (8 * i) 8) ∧
        ∀ b, b < (busAddrP a).toNat ∨ (busAddrP a).toNat + 16 ≤ b → m.readByte b = s.memP.readByte b) ∧
    (∀ a v, s.pending = .memS a v :: rest → s.memS.wf = true →
      ∃ m, step s = .next { s with pending := rest, memS := m } ∧ m.readWord (busAddrS a).toNat = v ∧
        (∀ i, i < 4 → m.readByte ((busAddrS a).toNat + i) = v.extractLsb' (8 * i) 8) ∧
        ∀ b, b < (busAddrS a).toNat ∨ (busAddrS a).toNat + 4 ≤ b → m.readByte b = s.memS.readByte b) ∧
    (∀ a v, s.pending = .spr a v :: rest → s.spr.wf = true →
      ∃ m, step s = .next { s with pending := rest, spr := m } ∧ m.readQuad (sprOffset a).toNat = v ∧
        (∀ i, i < 16 → m.readByte ((sprOffset a).toNat + i) = v.extractLsb' (8 * i) 8) ∧
        ∀ b, b < (sprOffset a).toNat ∨ (sprOffset a).toNat + 16 ≤ b → m.readByte b = s.spr.readByte b)) ∧
  (∀ (m : Memory) (a : Nat),
    (∀ i, i < 16 → (m.readQuad a).extractLsb' (8 * i) 8 = m.readByte (a + i)) ∧
    (∀ i, i < 4 → (m.readWord a).extractLsb' (8 * i) 8 = m.readByte (a + i)))

/-- A SERVICE_P that decodes runs the instruction its tag is, in the state after the tag is read (R294, R296): from memory
at TADR for a channel of the source family; from the scratchpad, their peer, for channels 8 and 9 of the destination family;
from the peer for another destination channel. That a destination channel 9 reads its tags from the scratchpad is the
model's choice (R114, R302; log 26). A service that fetches a destination tag of no modelled variant is left to
`ServicesOfUnmodelledTagsAreFatal`. -/
def Obligations.ServicePRunsTheFetchedTag : Prop :=
  ∀ (s : State) (c : PChan), ServesP s c → (s.pch c).chcr.extractLsb' 2 2 = 1 → (s.pch c).qwc = 0 →
    ¬((s.pch c).hasTag = true ∧ (s.pch c).chainEnded = true) →
    (s.cfg.tagFromPeerP[c] = false →
      exec .serviceP s =
        exec (decodePTag .source c (busReadP s (s.pch c).tadr)) (afterBusReadP (s.pch c).tadr s)) ∧
    (s.cfg.tagFromPeerP[c] = true → (c = 8 ∨ c = 9) →
      (tagId (sprReadP s c) = 0 ∨ tagId (sprReadP s c) = 1 ∨ tagId (sprReadP s c) = 7) →
      exec .serviceP s = exec (decodePTag .destination c (sprReadP s c)) (afterSprGet c s)) ∧
    (∀ t, s.cfg.tagFromPeerP[c] = true → c ≠ 8 → c ≠ 9 → (answerP s c).unit = some t →
      (tagId t = 0 ∨ tagId t = 1 ∨ tagId t = 7) →
      exec .serviceP s = exec (decodePTag .destination c t) (afterPopP c s))

/-- A SERVICE_S that decodes runs the tag instruction, in the state after the tag is read (R348, R349): both words from
memory, at TADR and TADR + 4; or the buffered first word and a second one popped from the peer. -/
def Obligations.ServiceSRunsTheFetchedTag : Prop :=
  ∀ (s : State) (c : SChan), ServesS s c → s.cfg.peerPresentS[c] = true → (s.sch c).chcr.getLsbD 1 = false →
    (s.sch c).chcr.extractLsb' 9 2 = 3 → (s.sch c).remaining = 0 →
    ¬((s.sch c).hasTag = true ∧ (s.sch c).chainEnded = true) →
    (s.cfg.tagFromPeerS[c] = false →
      exec .serviceS s =
        exec (decodeSTag c (busReadS s (s.sch c).tadr) (busReadS s ((s.sch c).tadr + 4)))
          (afterBusReadS ((s.sch c).tadr + 4) (afterBusReadS (s.sch c).tadr s))) ∧
    (∀ w1, s.cfg.tagFromPeerS[c] = true → (s.sch c).tagWords = true → (answerS s c).unit = some w1 →
      exec .serviceS s = exec (decodeSTag c (s.sch c).tagBuf w1) (afterPopS c s))

/-! ## Register reads -/

/-- A read of any engine P register returns it and changes nothing (R110, R192, R194, R196, R198, R200, R202, R204, R206,
R208, R210); under the invariant the reserved bits of CHCR, 1 and 15:9, read 0 (R145): the rows rdPChcr_0 to rdPSadr_9,
rdPDCtrl, rdPDStat, rdPDPcr. -/
def Obligations.ReadsOfEngineP : Prop :=
  ∀ s : State, s.engP.fault = none →
    (∀ c, exec (.rdPChcr c) s = .next { s with response := .value (s.pch c).chcr } ∧
      exec (.rdPMadr c) s = .next { s with response := .value (s.pch c).madr } ∧
      exec (.rdPQwc c) s = .next { s with response := .value ((s.pch c).qwc.setWidth 32) } ∧
      exec (.rdPTadr c) s = .next { s with response := .value (s.pch c).tadr } ∧
      exec (.rdPAsr0 c) s = .next { s with response := .value (s.pch c).asr0 } ∧
      exec (.rdPAsr1 c) s = .next { s with response := .value (s.pch c).asr1 } ∧
      exec (.rdPSadr c) s = .next { s with response := .value ((s.pch c).sadr.setWidth 32) }) ∧
    (s.Inv → ∀ c, (s.pch c).chcr &&& ~~~0xFFFF01FD = 0) ∧
    exec .rdPDCtrl s = .next { s with response := .value s.engP.dCtrl } ∧
    exec .rdPDPcr s = .next { s with response := .value s.engP.dPcr } ∧
    ∃ v : Word, exec .rdPDStat s = .next { s with response := .value v } ∧
      ∀ i, v.getLsbD i = (s.engP.cis.getLsbD i || (decide (16 ≤ i) && s.engP.cim.getLsbD (i - 16)))

/-- A 32-bit read of an engine S channel's MADR, CHCR or TADR returns it, zero-extended, and changes nothing (R110, R220,
R224, R226): the rows rdSMadr_0 to rdSTadr_12. -/
def Obligations.ReadsOfEngineSChannels : Prop :=
  ∀ (s : State) (c : SChan), s.engS.fault = none →
    exec (.rdSMadr c) s = .next { s with response := .value ((s.sch c).madr.setWidth 32) } ∧
    exec (.rdSChcr c) s = .next { s with response := .value (s.sch c).chcr } ∧
    exec (.rdSTadr c) s = .next { s with response := .value ((s.sch c).tadr.setWidth 32) }

/-- A read of BCR returns the lane that its width and byte offset select, zero-extended, and changes nothing (R110, R190,
R222): the rows rdSBcr_c_0 at three widths, rdSBcr_c_1, rdSBcr_c_2 at two widths, rdSBcr_c_3, for c = 0 to 12. -/
def Obligations.ReadsOfBcrLanes : Prop :=
  ∀ (s : State) (c : SChan), s.engS.fault = none →
    exec (.rdSBcrAt0 c .w32) s = .next { s with response := .value (s.sch c).bcr } ∧
    exec (.rdSBcrAt0 c .w16) s = .next { s with response := .value (((s.sch c).bcr.extractLsb' 0 16).setWidth 32) } ∧
    exec (.rdSBcrAt0 c .w8) s = .next { s with response := .value (((s.sch c).bcr.extractLsb' 0 8).setWidth 32) } ∧
    exec (.rdSBcrAt1 c) s = .next { s with response := .value (((s.sch c).bcr.extractLsb' 8 8).setWidth 32) } ∧
    exec (.rdSBcrAt2 c .w16) s = .next { s with response := .value (((s.sch c).bcr.extractLsb' 16 16).setWidth 32) } ∧
    exec (.rdSBcrAt2 c .w8) s = .next { s with response := .value (((s.sch c).bcr.extractLsb' 16 8).setWidth 32) } ∧
    exec (.rdSBcrAt3 c) s = .next { s with response := .value (((s.sch c).bcr.extractLsb' 24 8).setWidth 32) }

/-- A read of an engine-wide register of engine S returns it, bit by bit for DICR and DICR2, and changes nothing (R110,
R152, R153, R228, R230, R232, R234, R236, R238). -/
def Obligations.ReadsOfEngineSWide : Prop :=
  ∀ s : State, s.engS.fault = none →
    exec .rdSDpcr s = .next { s with response := .value s.engS.dpcr } ∧
    exec .rdSDpcr2 s = .next { s with response := .value s.engS.dpcr2 } ∧
    exec .rdSDmacen s = .next { s with response := .value s.engS.dmacen } ∧
    exec .rdSDmacinten s = .next { s with response := .value s.engS.dmacinten } ∧
    (∃ v : Word, exec .rdSDicr s = .next { s with response := .value v } ∧
      (∀ i, i < 15 → v.getLsbD i = false) ∧ v.getLsbD 15 = s.engS.be ∧
      (∀ i, i < 7 → v.getLsbD (16 + i) = s.engS.im1.getLsbD i) ∧ v.getLsbD 23 = s.engS.mie ∧
      (∀ i, i < 7 → v.getLsbD (24 + i) = s.engS.ip1.getLsbD i) ∧ v.getLsbD 31 = s.engS.mif) ∧
    (∃ v : Word, exec .rdSDicr2 s = .next { s with response := .value v } ∧
      (∀ i, i < 13 → v.getLsbD i = s.engS.tip.getLsbD i) ∧ (∀ i, 13 ≤ i → i < 16 → v.getLsbD i = false) ∧
      (∀ i, i < 6 → v.getLsbD (16 + i) = s.engS.im2.getLsbD i) ∧ v.getLsbD 22 = false ∧ v.getLsbD 23 = false ∧
      (∀ i, i < 6 → v.getLsbD (24 + i) = s.engS.ip2.getLsbD i) ∧ v.getLsbD 30 = false ∧ v.getLsbD 31 = false)

/-! ## Register writes -/

/-- A write of an engine P register without side effects stores its writable bits and changes nothing else (R142 to R144,
R193, R197, R199, R201, R203, R205, R207, R211): the rows wrPMadr_0 to wrPSadr_9, wrPDCtrl, wrPDPcr. -/
def Obligations.PlainWritesOfEngineP : Prop :=
  ∀ (s : State) (v : Word), s.engP.fault = none →
    (∀ c, exec (.wrPMadr c v) s = .next { s.setPch c { s.pch c with madr := v } with response := .done } ∧
      exec (.wrPQwc c v) s =
        .next { s.setPch c { s.pch c with qwc := v.extractLsb' 0 16 } with response := .done } ∧
      exec (.wrPTadr c v) s = .next { s.setPch c { s.pch c with tadr := v } with response := .done } ∧
      exec (.wrPAsr0 c v) s = .next { s.setPch c { s.pch c with asr0 := v } with response := .done } ∧
      exec (.wrPAsr1 c v) s = .next { s.setPch c { s.pch c with asr1 := v } with response := .done } ∧
      exec (.wrPSadr c v) s =
        .next { s.setPch c { s.pch c with sadr := v.extractLsb' 0 14 } with response := .done }) ∧
    exec (.wrPDCtrl v) s = .next { s with engP := { s.engP with dCtrl := v }, response := .done } ∧
    exec (.wrPDPcr v) s = .next { s with engP := { s.engP with dPcr := v }, response := .done }

/-- A write of P.CHCR stores the bits of the write mask; where it starts the channel, STR going from 0 to 1, it clears
hasTag and chainEnded; it changes nothing else (R140, R195): the rows wrPChcr_0 to wrPChcr_9. -/
def Obligations.WritesOfPChcr : Prop :=
  ∀ (s : State) (c : PChan) (v : Word), s.engP.fault = none →
    ((s.pch c).chcr.getLsbD 8 = false → v.getLsbD 8 = true →
      exec (.wrPChcr c v) s =
        .next { s.setPch c { s.pch c with chcr := v &&& 0xFFFF01FD, hasTag := false, chainEnded := false } with
          response := .done }) ∧
    ((s.pch c).chcr.getLsbD 8 = true ∨ v.getLsbD 8 = false →
      exec (.wrPChcr c v) s =
        .next { s.setPch c { s.pch c with chcr := v &&& 0xFFFF01FD } with response := .done })

/-- A write of D_STAT clears the pending bits and toggles the mask bits that are 1 in the value, in one operation, then
re-evaluates the master flag, raising only if it rises; nothing else changes (R147, R209, R410, R411): wrPDStat. -/
def Obligations.WritesOfDStat : Prop :=
  ∀ (s : State) (v : Word), s.engP.fault = none → ∃ (cis cim : BitVec 10),
    (∀ i, cis.getLsbD i = (s.engP.cis.getLsbD i && !v.getLsbD i)) ∧
    (∀ i, i < 10 → cim.getLsbD i = (s.engP.cim.getLsbD i ^^ v.getLsbD (16 + i))) ∧
    exec (.wrPDStat v) s = .next { s with
      engP := { s.engP with cis := cis, cim := cim, master := cis &&& cim != 0 }
      log := s.log ++ if cis &&& cim != 0 && !s.engP.master then [.intcRaise .P] else []
      response := .done }

/-- A write of an engine S register without side effects stores its writable bits and changes nothing else (R221, R227,
R229, R231, R237, R239): the rows wrSMadr_0 to wrSTadr_12, wrSDpcr, wrSDpcr2, wrSDmacen, wrSDmacinten. -/
def Obligations.PlainWritesOfEngineS : Prop :=
  ∀ (s : State) (v : Word), s.engS.fault = none →
    (∀ c, exec (.wrSMadr c v) s =
        .next { s.setSch c { s.sch c with madr := v.extractLsb' 0 24 } with response := .done } ∧
      exec (.wrSTadr c v) s =
        .next { s.setSch c { s.sch c with tadr := v.extractLsb' 0 24 } with response := .done }) ∧
    exec (.wrSDpcr v) s = .next { s with engS := { s.engS with dpcr := v }, response := .done } ∧
    exec (.wrSDpcr2 v) s = .next { s with engS := { s.engS with dpcr2 := v }, response := .done } ∧
    exec (.wrSDmacen v) s = .next { s with engS := { s.engS with dmacen := v }, response := .done } ∧
    exec (.wrSDmacinten v) s = .next { s with engS := { s.engS with dmacinten := v }, response := .done }

/-- A write of BCR replaces the lane that its width and byte offset select and keeps every other bit; nothing else changes
(R190, R223): the rows wrSBcr_c_0 at three widths, wrSBcr_c_1, wrSBcr_c_2 at two widths, wrSBcr_c_3, for c = 0 to 12. -/
def Obligations.WritesOfBcrLanes : Prop :=
  ∀ (s : State) (c : SChan), s.engS.fault = none →
    (∀ (w : AccessWidth) (v : Word), ∃ b : Word,
      exec (.wrSBcrAt0 c w v) s = .next { s.setSch c { s.sch c with bcr := b } with response := .done } ∧
      ∀ i, i < 32 → b.getLsbD i =
        if i < (match w with | .w8 => 8 | .w16 => 16 | .w32 => 32) then v.getLsbD i else (s.sch c).bcr.getLsbD i) ∧
    (∀ v : Byte, ∃ b : Word,
      exec (.wrSBcrAt1 c v) s = .next { s.setSch c { s.sch c with bcr := b } with response := .done } ∧
      ∀ i, i < 32 → b.getLsbD i = if 8 ≤ i ∧ i < 16 then v.getLsbD (i - 8) else (s.sch c).bcr.getLsbD i) ∧
    (∀ (w : LaneWidth) (v : BitVec 16), ∃ b : Word,
      exec (.wrSBcrAt2 c w v) s = .next { s.setSch c { s.sch c with bcr := b } with response := .done } ∧
      ∀ i, i < 32 → b.getLsbD i =
        if 16 ≤ i ∧ i < (match w with | .w8 => 24 | .w16 => 32) then v.getLsbD (i - 16)
        else (s.sch c).bcr.getLsbD i) ∧
    (∀ v : Byte, ∃ b : Word,
      exec (.wrSBcrAt3 c v) s = .next { s.setSch c { s.sch c with bcr := b } with response := .done } ∧
      ∀ i, i < 32 → b.getLsbD i = if 24 ≤ i then v.getLsbD (i - 24) else (s.sch c).bcr.getLsbD i)

/-- A write of S.CHCR stores every bit; where it starts the channel, STR going from 0 to 1, it clears the hidden state of
R52; it changes nothing else (R150, R225): the rows wrSChcr_0 to wrSChcr_12. -/
def Obligations.WritesOfSChcr : Prop :=
  ∀ (s : State) (c : SChan) (v : Word), s.engS.fault = none →
    ((s.sch c).chcr.getLsbD 24 = false → v.getLsbD 24 = true →
      exec (.wrSChcr c v) s =
        .next { s.setSch c { s.sch c with
            chcr := v
            hasTag := false
            chainEnded := false
            active := false
            remaining := 0
            tagWords := false
            tagBuf := 0
            tagIrq := false } with
          response := .done }) ∧
    ((s.sch c).chcr.getLsbD 24 = true ∨ v.getLsbD 24 = false →
      exec (.wrSChcr c v) s = .next { s.setSch c { s.sch c with chcr := v } with response := .done })

/-- A write of DICR assigns BE, IM1 and MIE, clears the bits of IP1 that are 1 in the value, then re-evaluates the master
flag, raising if it rises while MID is clear; nothing else changes (R152, R233, R415, R416): wrSDicr. -/
def Obligations.WritesOfDicr : Prop :=
  ∀ (s : State) (v : Word), s.engS.fault = none → ∃ (im1 ip1 : BitVec 7) (mif : Bool),
    (∀ i, i < 7 → im1.getLsbD i = v.getLsbD (16 + i)) ∧
    (∀ i, i < 7 → ip1.getLsbD i = (s.engS.ip1.getLsbD i && !v.getLsbD (24 + i))) ∧
    mif = (v.getLsbD 15 || (v.getLsbD 23 && ((ip1 != 0) || (s.engS.ip2 != 0))) || (s.engS.tip != 0)) ∧
    exec (.wrSDicr v) s = .next { s with
      engS := { s.engS with be := v.getLsbD 15, im1 := im1, mie := v.getLsbD 23, ip1 := ip1, mif := mif }
      log := s.log ++ if mif && !s.engS.mif && !s.engS.dmacinten.getLsbD 1 then [.intcRaise .S] else []
      response := .done }

/-- A write of DICR2 clears the bits of TIP and IP2 that are 1 in the value, assigns IM2, then re-evaluates the master
flag; nothing else changes (R153, R235, R415, R416): wrSDicr2. -/
def Obligations.WritesOfDicr2 : Prop :=
  ∀ (s : State) (v : Word), s.engS.fault = none → ∃ (tip : BitVec 13) (im2 ip2 : BitVec 6) (mif : Bool),
    (∀ i, i < 13 → tip.getLsbD i = (s.engS.tip.getLsbD i && !v.getLsbD i)) ∧
    (∀ i, i < 6 → im2.getLsbD i = v.getLsbD (16 + i)) ∧
    (∀ i, i < 6 → ip2.getLsbD i = (s.engS.ip2.getLsbD i && !v.getLsbD (24 + i))) ∧
    mif = (s.engS.be || (s.engS.mie && ((s.engS.ip1 != 0) || (ip2 != 0))) || (tip != 0)) ∧
    exec (.wrSDicr2 v) s = .next { s with
      engS := { s.engS with tip := tip, im2 := im2, ip2 := ip2, mif := mif }
      log := s.log ++ if mif && !s.engS.mif && !s.engS.dmacinten.getLsbD 1 then [.intcRaise .S] else []
      response := .done }

/-- Writing back the value that a plain-storage register reads changes nothing (R240, first paragraph). -/
def Obligations.WriteBackChangesNothing : Prop :=
  ∀ (s : State) (r : RegRef), s.Inv → plainStorage r = true → faultOf r.engine s = none →
    runOperation (.write (BitVec.ofNat 32 r.address) .w32 (regValue s r)) s = .next { s with response := .done }

/-- A write of a plain-storage register reads back as the value under the register's write mask, and no other register of
either engine reads otherwise than before (R110, R240). -/
def Obligations.WritesReadBackMasked : Prop :=
  ∀ (s : State) (r : RegRef) (v : Word), plainStorage r = true → faultOf r.engine s = none →
    ∃ t, runOperation (.write (BitVec.ofNat 32 r.address) .w32 v) s = .next t ∧
      regValue t r = v &&& writeMask r ∧ (∀ r', r' ≠ r → regValue t r' = regValue s r') ∧
      (∀ a, t.memP.readByte a = s.memP.readByte a) ∧ (∀ a, t.memS.readByte a = s.memS.readByte a) ∧
      (∀ a, t.spr.readByte a = s.spr.readByte a) ∧ t.log = s.log

/-- Two successive writes of m at the mask bits of D_STAT restore the mask and clear no pending bit; a raise of the first
is not undone by the second (R241). -/
def Obligations.MaskToggledTwiceIsRestored : Prop :=
  ∀ (s : State) (m : BitVec 10), s.engP.fault = none →
    ∃ t u, runOperation (.write 0x1000E010 .w32 (m.setWidth 32 <<< 16)) s = .next t ∧
      runOperation (.write 0x1000E010 .w32 (m.setWidth 32 <<< 16)) t = .next u ∧
      u.engP.cim = s.engP.cim ∧ u.engP.cis = s.engP.cis ∧ ∃ l, u.log = t.log ++ l

/-- Reads see the registers only: two states whose registers read alike, hidden state or not, answer every access in a
window alike (R242). -/
def Obligations.ReadsSeeRegistersOnly : Prop :=
  ∀ (s t : State), (∀ r, regValue s r = regValue t r) → s.engP.fault.isSome = t.engP.fault.isSome →
    s.engS.fault.isSome = t.engS.fault.isSome → ∀ (a : Word) (w : AccessWidth), windowOf a ≠ none →
    ∃ s' t', runOperation (.read a w) s = .next s' ∧ runOperation (.read a w) t = .next t' ∧
      s'.response = t'.response

/-! ## Fatal errors -/

/-- A halted engine makes no step for a service, an access to its window or a tag; SET_REQUEST still writes drq, CPCOND is
still computed, and RESET clears the fault (R403, R425). That "no step" is a next state with that answer is the model's
(log 3). -/
def Obligations.HaltedEnginesTakeNoStep : Prop :=
  ∀ s : State,
    (s.engP.fault ≠ none →
      (∀ a w v, windowOf a = some .P →
        runOperation (.read a w) s = .next { s with response := .noStep } ∧
        runOperation (.write a w v) s = .next { s with response := .noStep }) ∧
      (∀ i, instrEngine i = some .P → i ≠ .resetP → i ≠ .cpcond → (∀ c b, i ≠ .setRequestP c b) →
        exec i s = .next { s with response := .noStep }) ∧
      (∀ c b, exec (.setRequestP c b) s = .next { s.setPch c { s.pch c with drq := b } with response := .done }) ∧
      (∃ b, exec .cpcond s = .next { s with response := .cpcond b } ∧
        (b = true ↔ ∀ c : PChan, s.engP.cis.getLsbD c.val = true ∨ s.engP.dPcr.getLsbD c.val = false)) ∧
      (∃ t, exec .resetP s = .next t ∧ t.engP.fault = none)) ∧
    (s.engS.fault ≠ none →
      (∀ a w v, windowOf a = some .S →
        runOperation (.read a w) s = .next { s with response := .noStep } ∧
        runOperation (.write a w v) s = .next { s with response := .noStep }) ∧
      (∀ i, instrEngine i = some .S → i ≠ .resetS → (∀ c b, i ≠ .setRequestS c b) →
        exec i s = .next { s with response := .noStep }) ∧
      (∀ c b, exec (.setRequestS c b) s = .next { s.setSch c { s.sch c with drq := b } with response := .done }) ∧
      (∃ t, exec .resetS s = .next t ∧ t.engS.fault = none))

/-- A fault is sticky: no step but RESET changes a halted engine, its request flags apart (R47, R58, R403). -/
def Obligations.FaultsAreSticky : Prop :=
  ∀ s t : State, step s = .next t →
    (s.engP.fault ≠ none → s.pending.head? ≠ some (.op .resetP) →
      t.engP = { s.engP with ch := t.engP.ch } ∧ ∀ c, t.pch c = { s.pch c with drq := (t.pch c).drq }) ∧
    (s.engS.fault ≠ none → s.pending.head? ≠ some (.op .resetS) →
      t.engS = { s.engS with ch := t.engS.ch } ∧ ∀ c, t.sch c = { s.sch c with drq := (t.sch c).drq })

/-- A fatal error of a service is precise: the engine is as it was, plus the record, which is its own; memory, the
scratchpad and the other engine are as they were; neither engine's interrupt is raised (R18, R400, R404, R422). That a
request flag which the peer set in a call of that service is as before too is the model's choice (log 11). -/
def Obligations.FatalServicesArePrecise : Prop :=
  ∀ (s t : State) (r : FaultRecord), t.response = .fault r →
    (exec .serviceP s = .next t →
      t.engP = { s.engP with fault := some r } ∧ r.engine = .P ∧ t.engS = s.engS ∧ t.memS = s.memS ∧
      (∀ a, t.memP.readByte a = s.memP.readByte a) ∧ (∀ a, t.spr.readByte a = s.spr.readByte a) ∧
      ∃ l, t.log = s.log ++ l ∧ ∀ e, Event.intcRaise e ∉ l) ∧
    (exec .serviceS s = .next t →
      t.engS = { s.engS with fault := some r } ∧ r.engine = .S ∧ t.engP = s.engP ∧ t.memP = s.memP ∧ t.spr = s.spr ∧
      (∀ a, t.memS.readByte a = s.memS.readByte a) ∧
      ∃ l, t.log = s.log ++ l ∧ ∀ e, Event.intcRaise e ∉ l)

/-! ## Independence -/

/-- What engine P does neither depends on engine S, its memory and its peers, nor changes them (R31, R403). -/
def Obligations.EnginePIgnoresEngineS : Prop :=
  ∀ (i : Instr) (s t : State) (e : EngineS) (m : Memory) (p : Vector (List (PeerReply Word)) 13),
    instrEngine i = some .P → exec i s = .next t →
    exec i (s.withS e m p) = .next (t.withS e m p) ∧ t.engS = s.engS ∧ t.memS = s.memS ∧ t.peersS = s.peersS

/-- What engine S does neither depends on engine P, its memory, the scratchpad and its peers, nor changes them (R31,
R403). -/
def Obligations.EngineSIgnoresEngineP : Prop :=
  ∀ (i : Instr) (s t : State) (e : EngineP) (m spr : Memory) (p : Vector (List (PeerReply Quad)) 10),
    instrEngine i = some .S → exec i s = .next t →
    exec i (s.withP e m spr p) = .next (t.withP e m spr p) ∧ t.engP = s.engP ∧ t.memP = s.memP ∧ t.spr = s.spr ∧
      t.peersP = s.peersP

/-! ## Dispatch -/

/-- A service of an engine that is disabled, or has no ready channel, is IDLE and changes nothing (R290, R291, R340,
R341). -/
def Obligations.IdleServicesChangeNothing : Prop :=
  ∀ s : State,
    (s.engP.fault = none →
      (s.engP.dCtrl.getLsbD 0 = false ∨ ∀ c, ¬((s.pch c).chcr.getLsbD 8 = true ∧ (s.pch c).drq = true)) →
      exec .serviceP s = .next { s with response := .idle }) ∧
    (s.engS.fault = none →
      (s.engS.dmacen.getLsbD 0 = false ∨
        ∀ c, ¬((s.sch c).chcr.getLsbD 24 = true ∧ (s.sch c).drq = true ∧ channelEnable s c = true)) →
      exec .serviceS s = .next { s with response := .idle })

/-- A SERVICE_P that is not IDLE touches one channel, the lowest-numbered ready one: every other channel, its pending bit
and its peer are as before, and no call is made for it (R62, R291, R311, R312). -/
def Obligations.ServicePTouchesOneChannel : Prop :=
  ∀ (s t : State) (c : PChan), ServesP s c → exec .serviceP s = .next t →
    (∀ d, d ≠ c → t.pch d = s.pch d ∧ t.peersP[d] = s.peersP[d]) ∧
    (∀ i, i ≠ c.val → t.engP.cis.getLsbD i = s.engP.cis.getLsbD i) ∧
    t.engP.cim = s.engP.cim ∧ t.engP.dCtrl = s.engP.dCtrl ∧ t.engP.dPcr = s.engP.dPcr ∧
    (∃ l, t.log = s.log ++ l ∧ ∀ e ∈ l, eventPeerP e = none ∨ eventPeerP e = some c) ∧
    (t.response = .progress c.val ∨ ∃ r, t.response = .fault r ∧ r.channel = some c.val)

/-- A SERVICE_S that is not IDLE touches one channel, the lowest-numbered ready one: every other channel, its pending bits
and its peer, every mask and enable, are as before, and no call is made for it (R62, R341, R361). -/
def Obligations.ServiceSTouchesOneChannel : Prop :=
  ∀ (s t : State) (c : SChan), ServesS s c → exec .serviceS s = .next t →
    (∀ d, d ≠ c → t.sch d = s.sch d ∧ t.peersS[d] = s.peersS[d]) ∧
    (∀ i, i ≠ c.val → t.engS.tip.getLsbD i = s.engS.tip.getLsbD i ∧ t.engS.ip1.getLsbD i = s.engS.ip1.getLsbD i) ∧
    (∀ i, i + 7 ≠ c.val → t.engS.ip2.getLsbD i = s.engS.ip2.getLsbD i) ∧
    t.engS.im1 = s.engS.im1 ∧ t.engS.im2 = s.engS.im2 ∧ t.engS.be = s.engS.be ∧ t.engS.mie = s.engS.mie ∧
    t.engS.dpcr = s.engS.dpcr ∧ t.engS.dpcr2 = s.engS.dpcr2 ∧ t.engS.dmacen = s.engS.dmacen ∧
    t.engS.dmacinten = s.engS.dmacinten ∧
    (∃ l, t.log = s.log ++ l ∧ ∀ e ∈ l, eventPeerS e = none ∨ eventPeerS e = some c) ∧
    (t.response = .progress c.val ∨ ∃ r, t.response = .fault r ∧ r.channel = some c.val)

/-! ## Engine P transfers -/

/-- A service of a started channel with quadwords left, from memory to its peer, moves one: it reads the quadword at MADR
with bits 3:0 cleared and pushes it, adds 16 to MADR, takes 1 from QWC, and completes the channel with the last quadword
in Normal mode or of an ended chain (R293 to R295, R300, R304). -/
def Obligations.ServicePMovesAQuadwordToThePeer : Prop :=
  ∀ (s : State) (c : PChan), ServesP s c →
    ((s.pch c).chcr.extractLsb' 2 2 = 0 ∨ (s.pch c).chcr.extractLsb' 2 2 = 1) → (s.pch c).qwc ≠ 0 →
    (s.pch c).chcr.getLsbD 0 = true → c ≠ 8 → c ≠ 9 → (answerP s c).accepts = true →
    ∃ t, exec .serviceP s = .next t ∧
      EndsP c { (s.pch c).unitMoved with drq := (answerP s c).request.getD (s.pch c).drq } (s.pch c).unitCompletes
        [.memReadP (busAddrP (s.pch c).madr), .pushP c (s.memP.readQuad (busAddrP (s.pch c).madr).toNat) true] s t ∧
      (∀ a, t.memP.readByte a = s.memP.readByte a) ∧ (∀ a, t.spr.readByte a = s.spr.readByte a)

/-- A service of a started channel with quadwords left, from its peer to memory, pops one and stores it at MADR with bits
3:0 cleared; no other byte changes (R104, R293 to R295, R300, R304). -/
def Obligations.ServicePMovesAQuadwordToMemory : Prop :=
  ∀ (s : State) (c : PChan) (q : Quad), ServesP s c → s.memP.wf = true →
    ((s.pch c).chcr.extractLsb' 2 2 = 0 ∨ (s.pch c).chcr.extractLsb' 2 2 = 1) → (s.pch c).qwc ≠ 0 →
    (s.pch c).chcr.getLsbD 0 = false → c ≠ 8 → c ≠ 9 → (answerP s c).unit = some q →
    ∃ t, exec .serviceP s = .next t ∧
      EndsP c { (s.pch c).unitMoved with drq := (answerP s c).request.getD (s.pch c).drq } (s.pch c).unitCompletes
        [.popP c (some q), .memWriteP (busAddrP (s.pch c).madr) q] s t ∧
      t.memP.readQuad (busAddrP (s.pch c).madr).toNat = q ∧
      (∀ a, a < (busAddrP (s.pch c).madr).toNat ∨ (busAddrP (s.pch c).madr).toNat + 16 ≤ a →
        t.memP.readByte a = s.memP.readByte a) ∧
      (∀ a, t.spr.readByte a = s.spr.readByte a)

/-- Channels 8 and 9 move their quadwords through the scratchpad at SADR & 0x3FF0, and SADR moves on by 16 (R102, R302):
into the scratchpad from memory, and out of it into memory. -/
def Obligations.ServicePMovesScratchpadQuadwords : Prop :=
  ∀ (s : State) (c : PChan), ServesP s c → (c = 8 ∨ c = 9) →
    ((s.pch c).chcr.extractLsb' 2 2 = 0 ∨ (s.pch c).chcr.extractLsb' 2 2 = 1) → (s.pch c).qwc ≠ 0 →
    ((s.pch c).chcr.getLsbD 0 = true → s.spr.wf = true →
      ∃ t q, q = s.memP.readQuad (busAddrP (s.pch c).madr).toNat ∧ exec .serviceP s = .next t ∧
        EndsP c { (s.pch c).unitMoved with sadr := (s.pch c).sadr + 16 } (s.pch c).unitCompletes
          [.memReadP (busAddrP (s.pch c).madr), .sprWrite (sprOffset (s.pch c).sadr) q] s t ∧
        t.spr.readQuad (sprOffset (s.pch c).sadr).toNat = q ∧
        (∀ a, a < (sprOffset (s.pch c).sadr).toNat ∨ (sprOffset (s.pch c).sadr).toNat + 16 ≤ a →
          t.spr.readByte a = s.spr.readByte a) ∧
        (∀ a, t.memP.readByte a = s.memP.readByte a)) ∧
    ((s.pch c).chcr.getLsbD 0 = false → s.memP.wf = true →
      ∃ t q, q = s.spr.readQuad (sprOffset (s.pch c).sadr).toNat ∧ exec .serviceP s = .next t ∧
        EndsP c { (s.pch c).unitMoved with sadr := (s.pch c).sadr + 16 } (s.pch c).unitCompletes
          [.sprRead (sprOffset (s.pch c).sadr), .memWriteP (busAddrP (s.pch c).madr) q] s t ∧
        t.memP.readQuad (busAddrP (s.pch c).madr).toNat = q ∧
        (∀ a, a < (busAddrP (s.pch c).madr).toNat ∨ (busAddrP (s.pch c).madr).toNat + 16 ≤ a →
          t.memP.readByte a = s.memP.readByte a) ∧
        (∀ a, t.spr.readByte a = s.spr.readByte a))

/-- A push that is refused is Fatal(PEER_OVERFLOW) with the unit, a pop that yields nothing Fatal(PEER_UNDERFLOW), of a
data quadword or of a tag, in the engine as it was (R115, R295, R296, R301, R401, R404). That the engine as it was includes
a request flag which the peer set in the failing call is the model's choice (log 11). Channels 8 and 9, whose peer is the
scratchpad port, raise no peer fault (R114, R302), in no configuration: for a tag from the peer of channel 9 or a payload
for channels 8 and 9 this is the model's choice between those rules and R296, R297 (log 26). -/
def Obligations.PeerFailuresOfEngineP : Prop :=
  ∀ (s : State) (c : PChan), ServesP s c →
    ((c = 8 ∨ c = 9) → ∀ t r, exec .serviceP s = .next t → t.response = .fault r →
      r.code ≠ .peerOverflow ∧ r.code ≠ .peerUnderflow) ∧
    (c ≠ 8 → c ≠ 9 → ((s.pch c).chcr.extractLsb' 2 2 = 0 ∨ (s.pch c).chcr.extractLsb' 2 2 = 1) → (s.pch c).qwc ≠ 0 →
      (s.pch c).chcr.getLsbD 0 = true → (answerP s c).accepts = false →
      ∃ t r, exec .serviceP s = .next t ∧
        r = serviceFault .P .peerOverflow c.val
          (some (.quad (s.memP.readQuad (busAddrP (s.pch c).madr).toNat))) .transfer ∧
        t.engP = { s.engP with fault := some r } ∧ t.response = .fault r ∧
        t.log = s.log ++ [.memReadP (busAddrP (s.pch c).madr),
          .pushP c (s.memP.readQuad (busAddrP (s.pch c).madr).toNat) false]) ∧
    (c ≠ 8 → c ≠ 9 → ((s.pch c).chcr.extractLsb' 2 2 = 0 ∨ (s.pch c).chcr.extractLsb' 2 2 = 1) → (s.pch c).qwc ≠ 0 →
      (s.pch c).chcr.getLsbD 0 = false → (answerP s c).unit = none →
      ∃ t r, exec .serviceP s = .next t ∧ r = serviceFault .P .peerUnderflow c.val none .transfer ∧
        t.engP = { s.engP with fault := some r } ∧ t.response = .fault r ∧ t.log = s.log ++ [.popP c none]) ∧
    (c ≠ 8 → c ≠ 9 → (s.pch c).chcr.extractLsb' 2 2 = 1 → (s.pch c).qwc = 0 →
      ¬((s.pch c).hasTag = true ∧ (s.pch c).chainEnded = true) → s.cfg.tagFromPeerP[c] = true →
      (answerP s c).unit = none →
      ∃ t r, exec .serviceP s = .next t ∧ r = serviceFault .P .peerUnderflow c.val none .tagRead ∧
        t.engP = { s.engP with fault := some r } ∧ t.response = .fault r ∧ t.log = s.log ++ [.popP c none])

/-- A service of a channel in Interleave or the reserved mode is Fatal(UNMODELLED_MODE) with its control word, and nothing
else changes (R141, R292, R401). -/
def Obligations.UnmodelledModesOfEngineP : Prop :=
  ∀ (s : State) (c : PChan), ServesP s c →
    ((s.pch c).chcr.extractLsb' 2 2 = 2 ∨ (s.pch c).chcr.extractLsb' 2 2 = 3) →
    exec .serviceP s =
      .next (s.faultedBy .P (serviceFault .P .unmodelledMode c.val (some (.register (s.pch c).chcr)) .service))

/-- A service of a channel with nothing left to move completes it, with no call at all: in Normal mode with QWC = 0 (R293),
in Chain mode with QWC = 0 and an ended chain whose tag is held (R294, R303, R304). -/
def Obligations.EmptyTransfersComplete : Prop :=
  ∀ (s : State) (c : PChan), ServesP s c → (s.pch c).qwc = 0 →
    ((s.pch c).chcr.extractLsb' 2 2 = 0 ∨
      ((s.pch c).chcr.extractLsb' 2 2 = 1 ∧ (s.pch c).hasTag = true ∧ (s.pch c).chainEnded = true)) →
    ∃ t, exec .serviceP s = .next t ∧ EndsP c (s.pch c) true [] s t ∧
      (∀ a, t.memP.readByte a = s.memP.readByte a) ∧ (∀ a, t.spr.readByte a = s.spr.readByte a)

/-- A Normal transfer of n quadwords to a peer that takes them takes n services: after k of them MADR is 16k on and n - k
are left, the channel still busy while k < n; the last one clears STR and pends the channel; the peer has received the
quadwords of memory from MADR on, in order (R293, R300, R304, R313). -/
def Obligations.NormalTransferTakesQwcServices : Prop :=
  ∀ (s : State) (c : PChan) (n : Nat), ServesP s c → (s.pch c).chcr.extractLsb' 2 2 = 0 →
    (s.pch c).chcr.getLsbD 0 = true → c ≠ 8 → c ≠ 9 → (s.pch c).qwc.toNat = n → 0 < n →
    s.peersP[c] = List.replicate n ⟨true, none, none⟩ →
    ∀ k, k ≤ n → ∃ t, servicesP k s = some t ∧
      (t.pch c).madr = (s.pch c).madr + BitVec.ofNat 32 (16 * k) ∧ (t.pch c).qwc.toNat = n - k ∧
      (t.pch c).chcr.getLsbD 8 = decide (k < n) ∧
      t.engP.cis.getLsbD c.val = (s.engP.cis.getLsbD c.val || decide (k = n)) ∧
      t.memP = s.memP ∧
      t.log.filterMap (receivedP c) = s.log.filterMap (receivedP c) ++
        (List.range k).map fun j =>
          s.memP.readQuad (busAddrP ((s.pch c).madr + BitVec.ofNat 32 (16 * j))).toNat

/-! ## Engine P tags -/

/-- The source chain's decode table (R251, R252, R254 to R258, R261, R296 to R298): the rows pSrcTagRefe, pSrcTagCnt,
pSrcTagNext, pSrcTagRef, pSrcTagRefs and pSrcTagEnd. That a payload forwarded on channels 8 and 9, where the configuration
has them forward, leaves the scratchpad and SADR as they were is the model's choice (log 26). -/
def Obligations.SourceTagsDecode : Prop :=
  ∀ (c : PChan) (t : PTag),
    SourceDecodes (.pSrcTagRefe c t) c t 0 (fun _ => t.addr) (fun s => (s.pch c).tadr + 16) (fun _ => true) ∧
    SourceDecodes (.pSrcTagCnt c t) c t 1 (fun s => (s.pch c).tadr + 16)
      (fun s => (s.pch c).tadr + 16 + 16 * t.qwc.setWidth 32) (fun s => t.irq && (s.pch c).chcr.getLsbD 7) ∧
    SourceDecodes (.pSrcTagNext c t) c t 2 (fun s => (s.pch c).tadr + 16) (fun _ => t.addr)
      (fun s => t.irq && (s.pch c).chcr.getLsbD 7) ∧
    SourceDecodes (.pSrcTagRef c t) c t 3 (fun _ => t.addr) (fun s => (s.pch c).tadr + 16)
      (fun s => t.irq && (s.pch c).chcr.getLsbD 7) ∧
    SourceDecodes (.pSrcTagRefs c t) c t 4 (fun _ => t.addr) (fun s => (s.pch c).tadr + 16)
      (fun s => t.irq && (s.pch c).chcr.getLsbD 7) ∧
    SourceDecodes (.pSrcTagEnd c t) c t 7 (fun s => (s.pch c).tadr + 16) (fun s => (s.pch c).tadr) (fun _ => true)

/-- The destination chain's decode (R252, R253, R263 to R266, R296 to R298): the rows pDstTagCnts, pDstTagCnt and
pDstTagEnd. TADR is unchanged, and TTE is ignored. -/
def Obligations.DestinationTagsDecode : Prop :=
  ∀ (c : PChan) (t : PTag),
    DestinationDecodes (.pDstTagCnts c t) c t 0 (fun s => t.irq && (s.pch c).chcr.getLsbD 7) ∧
    DestinationDecodes (.pDstTagCnt c t) c t 1 (fun s => t.irq && (s.pch c).chcr.getLsbD 7) ∧
    DestinationDecodes (.pDstTagEnd c t) c t 7 (fun _ => true)

/-- CALL, RET and the destination IDs 2 to 6 are Fatal(UNMODELLED_TAG) with the low 64 bits of the tag, always, and nothing
else changes (R259, R260, R267, R401): the rows pSrcTagCall, pSrcTagRet and pDstTagId2 to pDstTagId6. -/
def Obligations.UnmodelledTagsAreFatal : Prop :=
  ∀ (s : State) (c : PChan) (t : PTag), s.engP.fault = none →
    exec (.pSrcTagCall c t) s =
      .next (s.faultedBy .P (serviceFault .P .unmodelledTag c.val (some (.tag (tagLow t 5))) .tagDecode)) ∧
    exec (.pSrcTagRet c t) s =
      .next (s.faultedBy .P (serviceFault .P .unmodelledTag c.val (some (.tag (tagLow t 6))) .tagDecode)) ∧
    exec (.pDstTagId2 c t) s =
      .next (s.faultedBy .P (serviceFault .P .unmodelledTag c.val (some (.tag (tagLow t 2))) .tagDecode)) ∧
    exec (.pDstTagId3 c t) s =
      .next (s.faultedBy .P (serviceFault .P .unmodelledTag c.val (some (.tag (tagLow t 3))) .tagDecode)) ∧
    exec (.pDstTagId4 c t) s =
      .next (s.faultedBy .P (serviceFault .P .unmodelledTag c.val (some (.tag (tagLow t 4))) .tagDecode)) ∧
    exec (.pDstTagId5 c t) s =
      .next (s.faultedBy .P (serviceFault .P .unmodelledTag c.val (some (.tag (tagLow t 5))) .tagDecode)) ∧
    exec (.pDstTagId6 c t) s =
      .next (s.faultedBy .P (serviceFault .P .unmodelledTag c.val (some (.tag (tagLow t 6))) .tagDecode))

/-- With TTE set, a source tag of a modelled variant on a channel that does not forward is Fatal(TTE_UNSUPPORTED) with the
low 64 bits of the tag; on one whose peer refuses the payload it is Fatal(PEER_OVERFLOW) with the payload. The engine is
as it was (R297, R305, R401, R404); the scratchpad, the peer of channels 8 and 9, refuses none (R114, R302; log 26). That
this includes a request flag which the peer set in the refused PeerPushTag is the
model's choice (log 11). -/
def Obligations.RefusedTagTransfersAreFatal : Prop :=
  ∀ (s : State) (c : PChan) (t : Quad), s.engP.fault = none → (s.pch c).chcr.getLsbD 6 = true →
    tagId t ≠ 5 → tagId t ≠ 6 →
    (s.cfg.tteFwd[c] = false →
      exec (decodePTag .source c t) s =
        .next (s.faultedBy .P
          (serviceFault .P .tteUnsupported c.val (some (.tag (t.extractLsb' 0 64))) .tagTransfer))) ∧
    (s.cfg.tteFwd[c] = true → (answerP s c).accepts = false →
      ∃ u r, exec (decodePTag .source c t) s = .next u ∧
        r = serviceFault .P .peerOverflow c.val (some (.payload (t.extractLsb' 64 64))) .tagTransfer ∧
        u.engP = { s.engP with fault := some r } ∧ u.response = .fault r ∧
        u.log = s.log ++ [.pushTagP c (t.extractLsb' 64 64) false] ∧
        (∀ a, u.memP.readByte a = s.memP.readByte a) ∧ (∀ a, u.spr.readByte a = s.spr.readByte a))

/-- Tag bits 27:16 and 127:64 have no effect on the variant a tag decodes as, nor on any output of the decode, in either
family, whatever TADR0 and TIE are (R268; the TAG cache is no output of this function). -/
def Obligations.IgnoredTagBits : Prop :=
  ∀ (fam : TagFamily) (tadr0 : Word) (tie : Bool) (t u : Quad),
    (∀ i, i < 16 ∨ (28 ≤ i ∧ i < 64) → t.getLsbD i = u.getLsbD i) →
    tagId t = tagId u ∧ decodeTag fam tadr0 tie t = decodeTag fam tadr0 tie u

/-! ## Engine S tags -/

/-- An engine S tag loads the channel (R160, R275); a tag from memory moves TADR on by 8, one from the peer empties the
half-tag count (R276, R349); an empty segment ends at once, completing the channel if it ends the chain (R349, R356).
CHCR is written by the completion only (R277): the row sTag. No service runs a tag on a channel in Slice mode, and a
completion there would set no TIP bit (R345). -/
def Obligations.EngineSTagDecodes : Prop :=
  ∀ (s : State) (c : SChan) (t : STag), s.engS.fault = none →
    ∃ u, exec (.sTag c t) s = .next u ∧
      EndsS c
        { s.sch c with
          madr := t.addr
          remaining := t.count
          chainEnded := t.ert || t.irq
          tagIrq := t.irq
          hasTag := t.count != 0
          tadr := if s.cfg.tagFromPeerS[c] then (s.sch c).tadr else (s.sch c).tadr + 8
          tagWords := !s.cfg.tagFromPeerS[c] && (s.sch c).tagWords }
        (t.count == 0 && (t.ert || t.irq)) [] s u ∧
      (∀ a, u.memS.readByte a = s.memS.readByte a)

/-- The first word of a peer-sourced tag is popped and held, and the invocation ends there (R349). -/
def Obligations.PeerTagFirstWordIsHeld : Prop :=
  ∀ (s : State) (c : SChan) (w : Word), ServesS s c → s.cfg.peerPresentS[c] = true →
    (s.sch c).chcr.getLsbD 1 = false → (s.sch c).chcr.extractLsb' 9 2 = 3 → (s.sch c).remaining = 0 →
    ¬((s.sch c).hasTag = true ∧ (s.sch c).chainEnded = true) → s.cfg.tagFromPeerS[c] = true →
    (s.sch c).tagWords = false → (answerS s c).unit = some w →
    ∃ t, exec .serviceS s = .next t ∧
      EndsS c
        { s.sch c with tagBuf := w, tagWords := true, drq := (answerS s c).request.getD (s.sch c).drq }
        false [.popS c (some w)] s t ∧
      (∀ a, t.memS.readByte a = s.memS.readByte a)

/-! ## Engine S transfers -/

/-- A service of a started channel with words left, from memory to its peer, moves one: it reads the word at MADR with bits
1:0 cleared and pushes it, adds 4 to MADR and takes 1 from the count. A slice that is not active yet first takes BS × BA as
its count (R344, R346, R348, R350, R356). The last word of a slice sets no TIP bit (R345), also where a rewrite of the busy
channel's mode left a tag interrupt held: there R345 is followed for TIP and R356 for the clearing (log 25). -/
def Obligations.ServiceSMovesAWordToThePeer : Prop :=
  ∀ (s : State) (c : SChan), ServesS s c → s.cfg.peerPresentS[c] = true → (s.sch c).chcr.getLsbD 1 = false →
    ((s.sch c).chcr.extractLsb' 9 2 = 1 ∨ (s.sch c).chcr.extractLsb' 9 2 = 3) →
    (s.sch c).started.remaining ≠ 0 → (s.sch c).chcr.getLsbD 0 = true → (answerS s c).accepts = true →
    ∃ t, exec .serviceS s = .next t ∧
      EndsS c { (s.sch c).started.wordMoved with drq := (answerS s c).request.getD (s.sch c).drq }
        (s.sch c).started.wordCompletes
        [.memReadS (busAddrS (s.sch c).madr), .pushS c (s.memS.readWord (busAddrS (s.sch c).madr).toNat) true] s t ∧
      (∀ a, t.memS.readByte a = s.memS.readByte a)

/-- A service of a started channel with words left, from its peer to memory, pops one and stores it at MADR with bits 1:0
cleared; no other byte changes (R104, R344, R346, R348, R350, R356). The last word of a slice sets no TIP bit (R345; of a
held tag interrupt, log 25). -/
def Obligations.ServiceSMovesAWordToMemory : Prop :=
  ∀ (s : State) (c : SChan) (w : Word), ServesS s c → s.cfg.peerPresentS[c] = true → s.memS.wf = true →
    (s.sch c).chcr.getLsbD 1 = false →
    ((s.sch c).chcr.extractLsb' 9 2 = 1 ∨ (s.sch c).chcr.extractLsb' 9 2 = 3) →
    (s.sch c).started.remaining ≠ 0 → (s.sch c).chcr.getLsbD 0 = false → (answerS s c).unit = some w →
    ∃ t, exec .serviceS s = .next t ∧
      EndsS c { (s.sch c).started.wordMoved with drq := (answerS s c).request.getD (s.sch c).drq }
        (s.sch c).started.wordCompletes
        [.popS c (some w), .memWriteS (busAddrS (s.sch c).madr) w] s t ∧
      t.memS.readWord (busAddrS (s.sch c).madr).toNat = w ∧
      (∀ a, a < (busAddrS (s.sch c).madr).toNat ∨ (busAddrS (s.sch c).madr).toNat + 4 ≤ a →
        t.memS.readByte a = s.memS.readByte a)

/-- A service of a slice of no words, or of an ended chain with nothing left, completes the channel with no call at all
(R344, R348, R355, R356). The slice sets no TIP bit (R345; of a held tag interrupt, log 25). -/
def Obligations.EmptySlicesComplete : Prop :=
  ∀ (s : State) (c : SChan), ServesS s c → s.cfg.peerPresentS[c] = true → (s.sch c).chcr.getLsbD 1 = false →
    (s.sch c).started.remaining = 0 →
    ((s.sch c).chcr.extractLsb' 9 2 = 1 ∨
      ((s.sch c).chcr.extractLsb' 9 2 = 3 ∧ (s.sch c).hasTag = true ∧ (s.sch c).chainEnded = true)) →
    ∃ t, exec .serviceS s = .next t ∧ EndsS c (s.sch c).started true [] s t ∧
      (∀ a, t.memS.readByte a = s.memS.readByte a)

/-- The fatal errors of a SERVICE_S (R342, R343, R349, R350, R352, R357, R401): a channel with no modelled peer; Burst,
Linked-list and the decrementing step; a push refused; a pop of a data or tag word that yields nothing. The engine is as it
was (R404); that this includes a request flag which the peer set in the failing call is the model's choice (log 11). -/
def Obligations.FatalServicesOfEngineS : Prop :=
  ∀ (s : State) (c : SChan), ServesS s c →
    (s.cfg.peerPresentS[c] = false →
      exec .serviceS s =
        .next (s.faultedBy .S (serviceFault .S .unmodelledChannel c.val (some (.register (s.sch c).chcr)) .service))) ∧
    (s.cfg.peerPresentS[c] = true →
      ((s.sch c).chcr.getLsbD 1 = true ∨ (s.sch c).chcr.extractLsb' 9 2 = 0 ∨ (s.sch c).chcr.extractLsb' 9 2 = 2) →
      exec .serviceS s =
        .next (s.faultedBy .S (serviceFault .S .unmodelledMode c.val (some (.register (s.sch c).chcr)) .service))) ∧
    (s.cfg.peerPresentS[c] = true → (s.sch c).chcr.getLsbD 1 = false →
      ((s.sch c).chcr.extractLsb' 9 2 = 1 ∨ (s.sch c).chcr.extractLsb' 9 2 = 3) →
      (s.sch c).started.remaining ≠ 0 →
      ((s.sch c).chcr.getLsbD 0 = true → (answerS s c).accepts = false →
        ∃ t r, exec .serviceS s = .next t ∧
          r = serviceFault .S .peerOverflow c.val
            (some (.word (s.memS.readWord (busAddrS (s.sch c).madr).toNat))) .transfer ∧
          t.engS = { s.engS with fault := some r } ∧ t.response = .fault r ∧
          t.log = s.log ++ [.memReadS (busAddrS (s.sch c).madr),
            .pushS c (s.memS.readWord (busAddrS (s.sch c).madr).toNat) false]) ∧
      ((s.sch c).chcr.getLsbD 0 = false → (answerS s c).unit = none →
        ∃ t r, exec .serviceS s = .next t ∧ r = serviceFault .S .peerUnderflow c.val none .transfer ∧
          t.engS = { s.engS with fault := some r } ∧ t.response = .fault r ∧ t.log = s.log ++ [.popS c none])) ∧
    (s.cfg.peerPresentS[c] = true → (s.sch c).chcr.getLsbD 1 = false → (s.sch c).chcr.extractLsb' 9 2 = 3 →
      (s.sch c).remaining = 0 → ¬((s.sch c).hasTag = true ∧ (s.sch c).chainEnded = true) →
      s.cfg.tagFromPeerS[c] = true → (answerS s c).unit = none →
      ∃ t r, exec .serviceS s = .next t ∧ r = serviceFault .S .peerUnderflow c.val none .tagRead ∧
        t.engS = { s.engS with fault := some r } ∧ t.response = .fault r ∧ t.log = s.log ++ [.popS c none])

/-! ## Interrupts -/

/-- A step raises an engine's interrupt once if its master flag goes from 0 to 1, for engine S only while MID is clear, and
never otherwise (R411, R416, R422). -/
def Obligations.RaisesAreRisingEdges : Prop :=
  ∀ s t : State, step s = .next t → ∃ l, t.log = s.log ++ l ∧
    l.count (.intcRaise .P) = (if !s.engP.master && t.engP.master then 1 else 0) ∧
    l.count (.intcRaise .S) =
      (if !s.engS.mif && t.engS.mif && !s.engS.dmacinten.getLsbD 1 then 1 else 0)

/-- CPCOND is true when every channel's completion bit is set or the channel is not under priority control; it reads CIS and
CPC, writes nothing, and is true when no channel is under priority control (R424): the row cpcond. -/
def Obligations.CpcondReportsReadiness : Prop :=
  ∀ s : State, ∃ b, exec .cpcond s = .next { s with response := .cpcond b } ∧
    (b = true ↔ ∀ c : PChan, s.engP.cis.getLsbD c.val = true ∨ s.engP.dPcr.getLsbD c.val = false) ∧
    ((∀ c : PChan, s.engP.dPcr.getLsbD c.val = false) → b = true)

/-! ## Request flags, reset and the invariant -/

/-- SET_REQUEST writes the channel's request flag and nothing else: it services no channel and re-evaluates no interrupt, it
is accepted by a halted engine, and writing the value the flag has changes nothing (R310, R360): the rows setRequestP and
setRequestS. -/
def Obligations.SetRequestWritesOneFlag : Prop :=
  ∀ (s : State) (ready : Bool),
    (∀ c, exec (.setRequestP c ready) s =
        .next { s.setPch c { s.pch c with drq := ready } with response := .done } ∧
      ((s.pch c).drq = ready → exec (.setRequestP c ready) s = .next { s with response := .done })) ∧
    (∀ c, exec (.setRequestS c ready) s =
        .next { s.setSch c { s.sch c with drq := ready } with response := .done } ∧
      ((s.sch c).drq = ready → exec (.setRequestS c ready) s = .next { s with response := .done }))

/-- RESET gives every element of its engine its reset value, the request flags those of the parameter, halted or not; it
raises nothing, calls nothing and leaves the other engine untouched; afterwards D_STAT reads 0 and a service is IDLE
(R460, R461): the rows resetP and resetS. -/
def Obligations.ResetRestoresTheEngine : Prop :=
  ∀ s : State,
    (∃ t, exec .resetP s = .next t ∧
      (∀ c, t.pch c = ⟨0, 0, 0, 0, 0, 0, 0, false, false, s.cfg.drqResetP[c]⟩) ∧
      t.engP.dCtrl = 0 ∧ t.engP.cis = 0 ∧ t.engP.cim = 0 ∧ t.engP.dPcr = 0 ∧ t.engP.master = false ∧
      t.engP.fault = none ∧ t = { s with engP := t.engP, response := .done } ∧
      runOperation (.read 0x1000E010 .w32) t = .next { t with response := .value 0 } ∧
      exec .serviceP t = .next { t with response := .idle }) ∧
    (∃ t, exec .resetS s = .next t ∧
      (∀ c, t.sch c = ⟨0, 0, 0, 0, false, false, false, 0, false, 0, false, s.cfg.drqResetS[c]⟩) ∧
      t.engS.dpcr = 0 ∧ t.engS.dpcr2 = 0 ∧ t.engS.be = false ∧ t.engS.im1 = 0 ∧ t.engS.mie = false ∧
      t.engS.ip1 = 0 ∧ t.engS.mif = false ∧ t.engS.tip = 0 ∧ t.engS.im2 = 0 ∧ t.engS.ip2 = 0 ∧
      t.engS.dmacen = 0 ∧ t.engS.dmacinten = 0 ∧ t.engS.fault = none ∧
      t = { s with engS := t.engS, response := .done } ∧
      exec .serviceS t = .next { t with response := .idle })

/-- The invariant holds at reset (R402, R410, R415, R460; the memories' form is the model's, log 5). -/
def Obligations.InvAtReset : Prop := State.reset.Inv

/-- Every step keeps the invariant, from every state that has it (R40, R41, R62, R145, R402, R412, R417). -/
def Obligations.InvKeptByEveryStep : Prop :=
  ∀ s t : State, s.Inv → step s = .next t → t.Inv

/-! ## Services that fetch an unmodelled tag -/

/-- A SERVICE_P whose fetched tag is CALL or RET, or of destination ID 2 to 6, is Fatal(UNMODELLED_TAG) with the low 64 bits
of the tag: SADR, TADR, the held tag and every other element of the engine are as before the service, also where the tag
came from the scratchpad or a peer (R259, R260, R267, R296, R401, R404). Only the calls that read the tag were made. That
a request flag which the peer set in that call is as before too is the model's choice (log 11), and that a destination
channel 9 reads its tags from the scratchpad is another (log 26). -/
def Obligations.ServicesOfUnmodelledTagsAreFatal : Prop :=
  ∀ (s : State) (c : PChan) (t : Quad), ServesP s c → (s.pch c).chcr.extractLsb' 2 2 = 1 → (s.pch c).qwc = 0 →
    ¬((s.pch c).hasTag = true ∧ (s.pch c).chainEnded = true) →
    (s.cfg.tagFromPeerP[c] = false → t = s.memP.readQuad (busAddrP (s.pch c).tadr).toNat →
      (tagId t = 5 ∨ tagId t = 6) →
      UnmodelledTagFatal s c t [.memReadP (busAddrP (s.pch c).tadr)]) ∧
    (s.cfg.tagFromPeerP[c] = true → (c = 8 ∨ c = 9) → t = s.spr.readQuad (sprOffset (s.pch c).sadr).toNat →
      2 ≤ (tagId t).toNat → (tagId t).toNat ≤ 6 →
      UnmodelledTagFatal s c t [.sprRead (sprOffset (s.pch c).sadr)]) ∧
    (s.cfg.tagFromPeerP[c] = true → c ≠ 8 → c ≠ 9 → (answerP s c).unit = some t →
      2 ≤ (tagId t).toNat → (tagId t).toNat ≤ 6 →
      UnmodelledTagFatal s c t [.popP c (some t)])
end

