-- ==== Sys2Proof/Laws/Decode.lean ====
section
/-! SUPPORT. The register map and the decoder, each said once: a register is found at its address and nowhere else, and an
access to it is decoded by its row; tags pack and unpack without loss. -/

namespace Sys2Proof

/-! ### The register map -/

theorem mem_regs (r : RegRef) : (r.engine = .P ∧ r ∈ pRegs) ∨ (r.engine = .S ∧ r ∈ sRegs) := by
  cases r with
  | pCh c r => exact .inl ⟨rfl, by revert c; cases r <;> decide⟩
  | pWide r => exact .inl ⟨rfl, by cases r <;> decide⟩
  | sCh c r => exact .inr ⟨rfl, by revert c; cases r <;> decide⟩
  | sWide r => exact .inr ⟨rfl, by cases r <;> decide⟩

theorem allRegs_lookup : (pRegs.all fun r => lookupReg .P r.address == some r) = true ∧
    (sRegs.all fun r => lookupReg .S r.address == some r) = true := by
  constructor <;> decide

/-- A register is found at its address (R107, R108, R190). -/
theorem lookup_address (r : RegRef) : lookupReg r.engine r.address = some r := by
  have ha := allRegs_lookup
  simp only [List.all_eq_true, beq_iff_eq] at ha
  rcases mem_regs r with ⟨h1, h2⟩ | ⟨h1, h2⟩
  · rw [h1]; exact ha.1 r h2
  · rw [h1]; exact ha.2 r h2

/-- What a lookup finds is a register of the engine at that address. -/
theorem lookupReg_some {e : Engine} {w : Nat} {r : RegRef} (h : lookupReg e w = some r) :
    r.engine = e ∧ r.address = w := by
  have hp : (pRegs.all fun r => r.engine == .P) = true := by decide
  have hs : (sRegs.all fun r => r.engine == .S) = true := by decide
  simp only [List.all_eq_true, beq_iff_eq] at hp hs
  cases e with
  | P =>
    have hf : pRegs.find? (fun r => r.address == w) = some r := h
    exact ⟨hp r (List.mem_of_find?_eq_some hf), by simpa using List.find?_some hf⟩
  | S =>
    have hf : sRegs.find? (fun r => r.address == w) = some r := h
    exact ⟨hs r (List.mem_of_find?_eq_some hf), by simpa using List.find?_some hf⟩

theorem address_facts : (pRegs.all fun r => decide (r.address % 4 = 0 ∧
    r.address + 3 < 2 ^ 32) && (List.range 4).all fun k => windowOf (BitVec.ofNat 32 (r.address + k)) == some .P) =
    true ∧
  (sRegs.all fun r => decide (r.address % 4 = 0 ∧
      r.address + 3 < 2 ^ 32) && (List.range 4).all fun k => windowOf (BitVec.ofNat 32 (r.address + k)) == some .S) = true := by
  constructor <;> decide

/-- A register's word lies in its engine's window. -/
theorem address_spec (r : RegRef) : r.address % 4 = 0 ∧ r.address + 3 < 2 ^ 32 ∧
    ∀ k, k < 4 → windowOf (BitVec.ofNat 32 (r.address + k)) = some r.engine := by
  have ha := address_facts
  simp only [List.all_eq_true, Bool.and_eq_true, decide_eq_true_eq, beq_iff_eq, List.mem_range] at ha
  rcases mem_regs r with ⟨h1, h2⟩ | ⟨h1, h2⟩
  · obtain ⟨⟨a, b⟩, c⟩ := ha.1 r h2; exact ⟨a, b, by rw [h1]; exact c⟩
  · obtain ⟨⟨a, b⟩, c⟩ := ha.2 r h2; exact ⟨a, b, by rw [h1]; exact c⟩

/-- An access at byte k of register r's word is decoded to r and k (R109, R190). -/
theorem decodeAddress_reg (r : RegRef) (k : Nat) (hk : k < 4) (w : AccessWidth) (kind : AccessKind) :
    decodeAddress (BitVec.ofNat 32 (r.address + k)) w kind = .ok (r, k) := by
  obtain ⟨h1, h2, h3⟩ := address_spec r
  have hn : (BitVec.ofNat 32 (r.address + k)).toNat = r.address + k := by
    rw [BitVec.toNat_ofNat, Nat.mod_eq_of_lt (by omega)]
  have hw : wordAddress (BitVec.ofNat 32 (r.address + k)) = r.address := by
    unfold wordAddress; rw [hn]; omega
  unfold decodeAddress
  rw [h3 k hk, hw]
  simp only [lookup_address, hn]
  rw [show (r.address + k) % 4 = k by omega]

theorem decode_read (r : RegRef) (k : Nat) (hk : k < 4) (w : AccessWidth) :
    decode (.read (BitVec.ofNat 32 (r.address + k)) w) = match readRow r k w with
      | some i => .ok i
      | none => .error (.unsupportedWidth r (BitVec.ofNat 32 (r.address + k)) w .read) := by
  simp only [decode, decodeAddress_reg r k hk]
  all_goals (split <;> simp_all)

theorem decode_write (r : RegRef) (k : Nat) (hk : k < 4) (w : AccessWidth) (v : Word) :
    decode (.write (BitVec.ofNat 32 (r.address + k)) w v) = match writeRow r k w v with
      | some i => .ok i
      | none => .error (.unsupportedWidth r (BitVec.ofNat 32 (r.address + k)) w .write) := by
  simp only [decode, decodeAddress_reg r k hk]
  all_goals (split <;> simp_all)

theorem decode_read0 (r : RegRef) (w : AccessWidth) :
    decode (.read (BitVec.ofNat 32 r.address) w) = match readRow r 0 w with
      | some i => .ok i
      | none => .error (.unsupportedWidth r (BitVec.ofNat 32 r.address) w .read) := decode_read r 0 (by omega) w

theorem decode_write0 (r : RegRef) (w : AccessWidth) (v : Word) :
    decode (.write (BitVec.ofNat 32 r.address) w v) = match writeRow r 0 w v with
      | some i => .ok i
      | none => .error (.unsupportedWidth r (BitVec.ofNat 32 r.address) w .write) := decode_write r 0 (by omega) w v

theorem accessValue_fits {w : AccessWidth} {v : Word} (h : valueFits w v = true) : accessValue w v = v := by
  apply BitVec.eq_of_toNat_eq
  cases w <;> simp [valueFits, accessValue] at h ⊢ <;> omega

/-! ### Tags: packing and unpacking are inverse -/

theorem pack_tagId (id : BitVec 3) (t : PTag) : tagId (packPTag id t) = id := by
  apply BitVec.eq_of_getLsbD_eq; intro i hi
  simp only [tagId, packPTag, BitVec.getLsbD_extractLsb', BitVec.getLsbD_append]
  have h1 : ¬ (28 + i < 16) := by omega
  have h2 : ¬ (28 + i - 16 < 10) := by omega
  have h3 : ¬ (28 + i - 16 - 10 < 2) := by omega
  simp [h1, h2, h3, hi, show 28 + i - 16 - 10 - 2 = i by omega]

theorem unpack_pack (id : BitVec 3) (t : PTag) : unpackPTag (packPTag id t) = t := by
  cases t with
  | mk q r p irq a pl =>
    simp only [unpackPTag, PTag.mk.injEq]
    refine ⟨?_, ?_, ?_, ?_, ?_, ?_⟩
    · apply BitVec.eq_of_getLsbD_eq; intro i hi
      simp only [packPTag, BitVec.getLsbD_extractLsb', BitVec.getLsbD_append]
      simp [hi]
    · apply BitVec.eq_of_getLsbD_eq; intro i hi
      simp only [packPTag, BitVec.getLsbD_extractLsb', BitVec.getLsbD_append]
      simp [hi, show ¬ (16 + i < 16) by omega, show 16 + i - 16 = i by omega]
    · apply BitVec.eq_of_getLsbD_eq; intro i hi
      simp only [packPTag, BitVec.getLsbD_extractLsb', BitVec.getLsbD_append]
      simp [hi, show ¬ (26 + i < 16) by omega, show ¬ (26 + i - 16 < 10) by omega, show 26 + i - 16 - 10 = i by omega]
    · simp only [packPTag, BitVec.getLsbD_append]
      simp
    · apply BitVec.eq_of_getLsbD_eq; intro i hi
      simp only [packPTag, BitVec.getLsbD_extractLsb', BitVec.getLsbD_append]
      simp [hi, show ¬ (32 + i < 16) by omega, show ¬ (32 + i - 16 < 10) by omega,
          show ¬ (32 + i - 16 - 10 < 2) by omega,
        show ¬ (32 + i - 16 - 10 - 2 < 3) by omega, show ¬ (32 + i - 16 - 10 - 2 - 3 < 1) by omega,
            show 32 + i - 16 - 10 - 2 - 3 - 1 = i by omega]
    · apply BitVec.eq_of_getLsbD_eq; intro i hi
      simp only [packPTag, BitVec.getLsbD_extractLsb', BitVec.getLsbD_append]
      simp [hi, show ¬ (64 + i < 16) by omega, show ¬ (64 + i - 16 < 10) by omega,
          show ¬ (64 + i - 16 - 10 < 2) by omega,
        show ¬ (64 + i - 16 - 10 - 2 < 3) by omega, show ¬ (64 + i - 16 - 10 - 2 - 3 < 1) by omega,
            show ¬ (64 + i - 16 - 10 - 2 - 3 - 1 < 32) by omega, show 64 + i - 16 - 10 - 2 - 3 - 1 - 32 = i by omega]

theorem pack_unpack (t : Quad) : packPTag (tagId t) (unpackPTag t) = t := by
  apply BitVec.eq_of_getLsbD_eq; intro i hi
  simp only [packPTag, unpackPTag, tagId, BitVec.getLsbD_extractLsb', BitVec.getLsbD_append]
  by_cases h1 : i < 16
  · simp [h1]
  by_cases h2 : i - 16 < 10
  · simp [h1, h2, show 16 + (i - 16) = i by omega]
  by_cases h3 : i - 16 - 10 < 2
  · simp [h1, h2, h3, show 26 + (i - 16 - 10) = i by omega]
  by_cases h4 : i - 16 - 10 - 2 < 3
  · simp [h1, h2, h3, h4, show 28 + (i - 16 - 10 - 2) = i by omega]
  by_cases h5 : i - 16 - 10 - 2 - 3 < 1
  · have : i = 31 := by omega
    subst this; simp
  by_cases h6 : i - 16 - 10 - 2 - 3 - 1 < 32
  · simp [h1, h2, h3, h4, h5, h6, show 32 + (i - 16 - 10 - 2 - 3 - 1) = i by omega]
  · simp [h1, h2, h3, h4, h5, h6, show 64 + (i - 16 - 10 - 2 - 3 - 1 - 32) = i by omega,
      show i - 16 - 10 - 2 - 3 - 1 - 32 < 64 by omega]

theorem unpackS_pack (t : STag) : unpackSTag (packSTag0 t) t.count = t := by
  cases t with
  | mk a g irq ert cnt =>
    simp only [unpackSTag, STag.mk.injEq, and_true]
    refine ⟨?_, ?_, ?_, ?_⟩
    · apply BitVec.eq_of_getLsbD_eq; intro i hi
      simp only [packSTag0, BitVec.getLsbD_extractLsb', BitVec.getLsbD_append]
      simp [hi]
    · apply BitVec.eq_of_getLsbD_eq; intro i hi
      simp only [packSTag0, BitVec.getLsbD_extractLsb', BitVec.getLsbD_append]
      simp [hi]
    · simp only [packSTag0, BitVec.getLsbD_append]; simp
    · simp only [packSTag0, BitVec.getLsbD_append]; simp

theorem packS_unpack (w0 w1 : Word) : packSTag0 (unpackSTag w0 w1) = w0 := by
  apply BitVec.eq_of_getLsbD_eq; intro i hi
  simp only [packSTag0, unpackSTag, BitVec.getLsbD_extractLsb', BitVec.getLsbD_append]
  by_cases h1 : i < 24
  · simp [h1]
  by_cases h2 : i - 24 < 6
  · simp [h1, h2, show 24 + (i - 24) = i by omega]
  by_cases h3 : i - 24 - 6 < 1
  · have : i = 30 := by omega
    subst this; simp
  · have : i = 31 := by omega
    subst this; simp

theorem decodePTag_pack (fam : TagFamily) (c : PChan) (id : BitVec 3) (t : PTag) :
    decodePTag fam c (packPTag id t) =
      match fam, id.toFin with
      | .source, 0 => .pSrcTagRefe c t
      | .source, 1 => .pSrcTagCnt c t
      | .source, 2 => .pSrcTagNext c t
      | .source, 3 => .pSrcTagRef c t
      | .source, 4 => .pSrcTagRefs c t
      | .source, 5 => .pSrcTagCall c t
      | .source, 6 => .pSrcTagRet c t
      | .source, 7 => .pSrcTagEnd c t
      | .destination, 0 => .pDstTagCnts c t
      | .destination, 1 => .pDstTagCnt c t
      | .destination, 2 => .pDstTagId2 c t
      | .destination, 3 => .pDstTagId3 c t
      | .destination, 4 => .pDstTagId4 c t
      | .destination, 5 => .pDstTagId5 c t
      | .destination, 6 => .pDstTagId6 c t
      | .destination, 7 => .pDstTagEnd c t := by
  unfold decodePTag
  rw [pack_tagId, unpack_pack]
  all_goals (cases fam <;> (generalize id.toFin = n; fin_cases n <;> rfl))

end Sys2Proof
end

