-- ==== Sys2Proof/Laws/State.lean ====
section
/-! SUPPORT. One lemma per field per update of the state, true by rfl, and the laws of reading a channel after writing
one. No later proof unfolds a record update. -/

namespace Sys2Proof.Machine

/-! ### setEngP -/

@[simp] theorem State.engP_setEngP (s : State) (e : EngineP) : (s.setEngP e).engP = e := rfl
@[simp] theorem State.engS_setEngP (s : State) (e : EngineP) : (s.setEngP e).engS = s.engS := rfl
@[simp] theorem State.cfg_setEngP (s : State) (e : EngineP) : (s.setEngP e).cfg = s.cfg := rfl
@[simp] theorem State.memP_setEngP (s : State) (e : EngineP) : (s.setEngP e).memP = s.memP := rfl
@[simp] theorem State.memS_setEngP (s : State) (e : EngineP) : (s.setEngP e).memS = s.memS := rfl
@[simp] theorem State.spr_setEngP (s : State) (e : EngineP) : (s.setEngP e).spr = s.spr := rfl
@[simp] theorem State.peersP_setEngP (s : State) (e : EngineP) : (s.setEngP e).peersP = s.peersP := rfl
@[simp] theorem State.peersS_setEngP (s : State) (e : EngineP) : (s.setEngP e).peersS = s.peersS := rfl
@[simp] theorem State.pending_setEngP (s : State) (e : EngineP) : (s.setEngP e).pending = s.pending := rfl
@[simp] theorem State.peerCalls_setEngP (s : State) (e : EngineP) : (s.setEngP e).peerCalls = s.peerCalls := rfl
@[simp] theorem State.log_setEngP (s : State) (e : EngineP) : (s.setEngP e).log = s.log := rfl
@[simp] theorem State.response_setEngP (s : State) (e : EngineP) : (s.setEngP e).response = s.response := rfl
@[simp] theorem State.pch_setEngP (s : State) (e : EngineP) (d : PChan) : (s.setEngP e).pch d = e.ch[d] := rfl
@[simp] theorem State.sch_setEngP (s : State) (e : EngineP) (d : SChan) : (s.setEngP e).sch d = s.sch d := rfl

/-! ### setEngS -/

@[simp] theorem State.engP_setEngS (s : State) (e : EngineS) : (s.setEngS e).engP = s.engP := rfl
@[simp] theorem State.engS_setEngS (s : State) (e : EngineS) : (s.setEngS e).engS = e := rfl
@[simp] theorem State.cfg_setEngS (s : State) (e : EngineS) : (s.setEngS e).cfg = s.cfg := rfl
@[simp] theorem State.memP_setEngS (s : State) (e : EngineS) : (s.setEngS e).memP = s.memP := rfl
@[simp] theorem State.memS_setEngS (s : State) (e : EngineS) : (s.setEngS e).memS = s.memS := rfl
@[simp] theorem State.spr_setEngS (s : State) (e : EngineS) : (s.setEngS e).spr = s.spr := rfl
@[simp] theorem State.peersP_setEngS (s : State) (e : EngineS) : (s.setEngS e).peersP = s.peersP := rfl
@[simp] theorem State.peersS_setEngS (s : State) (e : EngineS) : (s.setEngS e).peersS = s.peersS := rfl
@[simp] theorem State.pending_setEngS (s : State) (e : EngineS) : (s.setEngS e).pending = s.pending := rfl
@[simp] theorem State.peerCalls_setEngS (s : State) (e : EngineS) : (s.setEngS e).peerCalls = s.peerCalls := rfl
@[simp] theorem State.log_setEngS (s : State) (e : EngineS) : (s.setEngS e).log = s.log := rfl
@[simp] theorem State.response_setEngS (s : State) (e : EngineS) : (s.setEngS e).response = s.response := rfl
@[simp] theorem State.pch_setEngS (s : State) (e : EngineS) (d : PChan) : (s.setEngS e).pch d = s.pch d := rfl
@[simp] theorem State.sch_setEngS (s : State) (e : EngineS) (d : SChan) : (s.setEngS e).sch d = e.ch[d] := rfl

/-! ### setPch -/

@[simp] theorem State.engS_setPch (s : State) (c : PChan) (x : PChannel) : (s.setPch c x).engS = s.engS := rfl
@[simp] theorem State.cfg_setPch (s : State) (c : PChan) (x : PChannel) : (s.setPch c x).cfg = s.cfg := rfl
@[simp] theorem State.memP_setPch (s : State) (c : PChan) (x : PChannel) : (s.setPch c x).memP = s.memP := rfl
@[simp] theorem State.memS_setPch (s : State) (c : PChan) (x : PChannel) : (s.setPch c x).memS = s.memS := rfl
@[simp] theorem State.spr_setPch (s : State) (c : PChan) (x : PChannel) : (s.setPch c x).spr = s.spr := rfl
@[simp] theorem State.peersP_setPch (s : State) (c : PChan) (x : PChannel) : (s.setPch c x).peersP = s.peersP := rfl
@[simp] theorem State.peersS_setPch (s : State) (c : PChan) (x : PChannel) : (s.setPch c x).peersS = s.peersS := rfl
@[simp] theorem State.pending_setPch (s : State) (c : PChan) (x : PChannel) : (s.setPch c x).pending = s.pending := rfl
@[simp] theorem State.peerCalls_setPch (s : State) (c : PChan) (x : PChannel) : (s.setPch c x).peerCalls = s.peerCalls := rfl
@[simp] theorem State.log_setPch (s : State) (c : PChan) (x : PChannel) : (s.setPch c x).log = s.log := rfl
@[simp] theorem State.response_setPch (s : State) (c : PChan) (x : PChannel) : (s.setPch c x).response = s.response := rfl
@[simp] theorem State.dCtrl_setPch (s : State) (c : PChan) (x : PChannel) : (s.setPch c x).engP.dCtrl = s.engP.dCtrl := rfl
@[simp] theorem State.cis_setPch (s : State) (c : PChan) (x : PChannel) : (s.setPch c x).engP.cis = s.engP.cis := rfl
@[simp] theorem State.cim_setPch (s : State) (c : PChan) (x : PChannel) : (s.setPch c x).engP.cim = s.engP.cim := rfl
@[simp] theorem State.dPcr_setPch (s : State) (c : PChan) (x : PChannel) : (s.setPch c x).engP.dPcr = s.engP.dPcr := rfl
@[simp] theorem State.master_setPch (s : State) (c : PChan) (x : PChannel) : (s.setPch c x).engP.master = s.engP.master := rfl
@[simp] theorem State.fault_setPch (s : State) (c : PChan) (x : PChannel) : (s.setPch c x).engP.fault = s.engP.fault := rfl
@[simp] theorem State.sch_setPch (s : State) (c : PChan) (x : PChannel) (d : SChan) : (s.setPch c x).sch d = s.sch d := rfl

/-! ### setSch -/

@[simp] theorem State.engP_setSch (s : State) (c : SChan) (x : SChannel) : (s.setSch c x).engP = s.engP := rfl
@[simp] theorem State.cfg_setSch (s : State) (c : SChan) (x : SChannel) : (s.setSch c x).cfg = s.cfg := rfl
@[simp] theorem State.memP_setSch (s : State) (c : SChan) (x : SChannel) : (s.setSch c x).memP = s.memP := rfl
@[simp] theorem State.memS_setSch (s : State) (c : SChan) (x : SChannel) : (s.setSch c x).memS = s.memS := rfl
@[simp] theorem State.spr_setSch (s : State) (c : SChan) (x : SChannel) : (s.setSch c x).spr = s.spr := rfl
@[simp] theorem State.peersP_setSch (s : State) (c : SChan) (x : SChannel) : (s.setSch c x).peersP = s.peersP := rfl
@[simp] theorem State.peersS_setSch (s : State) (c : SChan) (x : SChannel) : (s.setSch c x).peersS = s.peersS := rfl
@[simp] theorem State.pending_setSch (s : State) (c : SChan) (x : SChannel) : (s.setSch c x).pending = s.pending := rfl
@[simp] theorem State.peerCalls_setSch (s : State) (c : SChan) (x : SChannel) : (s.setSch c x).peerCalls = s.peerCalls := rfl
@[simp] theorem State.log_setSch (s : State) (c : SChan) (x : SChannel) : (s.setSch c x).log = s.log := rfl
@[simp] theorem State.response_setSch (s : State) (c : SChan) (x : SChannel) : (s.setSch c x).response = s.response := rfl
@[simp] theorem State.dpcr_setSch (s : State) (c : SChan) (x : SChannel) : (s.setSch c x).engS.dpcr = s.engS.dpcr := rfl
@[simp] theorem State.dpcr2_setSch (s : State) (c : SChan) (x : SChannel) : (s.setSch c x).engS.dpcr2 = s.engS.dpcr2 := rfl
@[simp] theorem State.be_setSch (s : State) (c : SChan) (x : SChannel) : (s.setSch c x).engS.be = s.engS.be := rfl
@[simp] theorem State.im1_setSch (s : State) (c : SChan) (x : SChannel) : (s.setSch c x).engS.im1 = s.engS.im1 := rfl
@[simp] theorem State.mie_setSch (s : State) (c : SChan) (x : SChannel) : (s.setSch c x).engS.mie = s.engS.mie := rfl
@[simp] theorem State.ip1_setSch (s : State) (c : SChan) (x : SChannel) : (s.setSch c x).engS.ip1 = s.engS.ip1 := rfl
@[simp] theorem State.mif_setSch (s : State) (c : SChan) (x : SChannel) : (s.setSch c x).engS.mif = s.engS.mif := rfl
@[simp] theorem State.tip_setSch (s : State) (c : SChan) (x : SChannel) : (s.setSch c x).engS.tip = s.engS.tip := rfl
@[simp] theorem State.im2_setSch (s : State) (c : SChan) (x : SChannel) : (s.setSch c x).engS.im2 = s.engS.im2 := rfl
@[simp] theorem State.ip2_setSch (s : State) (c : SChan) (x : SChannel) : (s.setSch c x).engS.ip2 = s.engS.ip2 := rfl
@[simp] theorem State.dmacen_setSch (s : State) (c : SChan) (x : SChannel) : (s.setSch c x).engS.dmacen = s.engS.dmacen := rfl
@[simp] theorem State.dmacinten_setSch (s : State) (c : SChan) (x : SChannel) : (s.setSch c x).engS.dmacinten = s.engS.dmacinten := rfl
@[simp] theorem State.faultS_setSch (s : State) (c : SChan) (x : SChannel) : (s.setSch c x).engS.fault = s.engS.fault := rfl
@[simp] theorem State.pch_setSch (s : State) (c : SChan) (x : SChannel) (d : PChan) : (s.setSch c x).pch d = s.pch d := rfl

/-! ### setMemP -/

@[simp] theorem State.engP_setMemP (s : State) (m : Memory) : (s.setMemP m).engP = s.engP := rfl
@[simp] theorem State.engS_setMemP (s : State) (m : Memory) : (s.setMemP m).engS = s.engS := rfl
@[simp] theorem State.cfg_setMemP (s : State) (m : Memory) : (s.setMemP m).cfg = s.cfg := rfl
@[simp] theorem State.memP_setMemP (s : State) (m : Memory) : (s.setMemP m).memP = m := rfl
@[simp] theorem State.memS_setMemP (s : State) (m : Memory) : (s.setMemP m).memS = s.memS := rfl
@[simp] theorem State.spr_setMemP (s : State) (m : Memory) : (s.setMemP m).spr = s.spr := rfl
@[simp] theorem State.peersP_setMemP (s : State) (m : Memory) : (s.setMemP m).peersP = s.peersP := rfl
@[simp] theorem State.peersS_setMemP (s : State) (m : Memory) : (s.setMemP m).peersS = s.peersS := rfl
@[simp] theorem State.pending_setMemP (s : State) (m : Memory) : (s.setMemP m).pending = s.pending := rfl
@[simp] theorem State.peerCalls_setMemP (s : State) (m : Memory) : (s.setMemP m).peerCalls = s.peerCalls := rfl
@[simp] theorem State.log_setMemP (s : State) (m : Memory) : (s.setMemP m).log = s.log := rfl
@[simp] theorem State.response_setMemP (s : State) (m : Memory) : (s.setMemP m).response = s.response := rfl
@[simp] theorem State.pch_setMemP (s : State) (m : Memory) (d : PChan) : (s.setMemP m).pch d = s.pch d := rfl
@[simp] theorem State.sch_setMemP (s : State) (m : Memory) (d : SChan) : (s.setMemP m).sch d = s.sch d := rfl

/-! ### setMemS -/

@[simp] theorem State.engP_setMemS (s : State) (m : Memory) : (s.setMemS m).engP = s.engP := rfl
@[simp] theorem State.engS_setMemS (s : State) (m : Memory) : (s.setMemS m).engS = s.engS := rfl
@[simp] theorem State.cfg_setMemS (s : State) (m : Memory) : (s.setMemS m).cfg = s.cfg := rfl
@[simp] theorem State.memP_setMemS (s : State) (m : Memory) : (s.setMemS m).memP = s.memP := rfl
@[simp] theorem State.memS_setMemS (s : State) (m : Memory) : (s.setMemS m).memS = m := rfl
@[simp] theorem State.spr_setMemS (s : State) (m : Memory) : (s.setMemS m).spr = s.spr := rfl
@[simp] theorem State.peersP_setMemS (s : State) (m : Memory) : (s.setMemS m).peersP = s.peersP := rfl
@[simp] theorem State.peersS_setMemS (s : State) (m : Memory) : (s.setMemS m).peersS = s.peersS := rfl
@[simp] theorem State.pending_setMemS (s : State) (m : Memory) : (s.setMemS m).pending = s.pending := rfl
@[simp] theorem State.peerCalls_setMemS (s : State) (m : Memory) : (s.setMemS m).peerCalls = s.peerCalls := rfl
@[simp] theorem State.log_setMemS (s : State) (m : Memory) : (s.setMemS m).log = s.log := rfl
@[simp] theorem State.response_setMemS (s : State) (m : Memory) : (s.setMemS m).response = s.response := rfl
@[simp] theorem State.pch_setMemS (s : State) (m : Memory) (d : PChan) : (s.setMemS m).pch d = s.pch d := rfl
@[simp] theorem State.sch_setMemS (s : State) (m : Memory) (d : SChan) : (s.setMemS m).sch d = s.sch d := rfl

/-! ### setSpr -/

@[simp] theorem State.engP_setSpr (s : State) (m : Memory) : (s.setSpr m).engP = s.engP := rfl
@[simp] theorem State.engS_setSpr (s : State) (m : Memory) : (s.setSpr m).engS = s.engS := rfl
@[simp] theorem State.cfg_setSpr (s : State) (m : Memory) : (s.setSpr m).cfg = s.cfg := rfl
@[simp] theorem State.memP_setSpr (s : State) (m : Memory) : (s.setSpr m).memP = s.memP := rfl
@[simp] theorem State.memS_setSpr (s : State) (m : Memory) : (s.setSpr m).memS = s.memS := rfl
@[simp] theorem State.spr_setSpr (s : State) (m : Memory) : (s.setSpr m).spr = m := rfl
@[simp] theorem State.peersP_setSpr (s : State) (m : Memory) : (s.setSpr m).peersP = s.peersP := rfl
@[simp] theorem State.peersS_setSpr (s : State) (m : Memory) : (s.setSpr m).peersS = s.peersS := rfl
@[simp] theorem State.pending_setSpr (s : State) (m : Memory) : (s.setSpr m).pending = s.pending := rfl
@[simp] theorem State.peerCalls_setSpr (s : State) (m : Memory) : (s.setSpr m).peerCalls = s.peerCalls := rfl
@[simp] theorem State.log_setSpr (s : State) (m : Memory) : (s.setSpr m).log = s.log := rfl
@[simp] theorem State.response_setSpr (s : State) (m : Memory) : (s.setSpr m).response = s.response := rfl
@[simp] theorem State.pch_setSpr (s : State) (m : Memory) (d : PChan) : (s.setSpr m).pch d = s.pch d := rfl
@[simp] theorem State.sch_setSpr (s : State) (m : Memory) (d : SChan) : (s.setSpr m).sch d = s.sch d := rfl

/-! ### setPending -/

@[simp] theorem State.engP_setPending (s : State) (l : List Pending) : (s.setPending l).engP = s.engP := rfl
@[simp] theorem State.engS_setPending (s : State) (l : List Pending) : (s.setPending l).engS = s.engS := rfl
@[simp] theorem State.cfg_setPending (s : State) (l : List Pending) : (s.setPending l).cfg = s.cfg := rfl
@[simp] theorem State.memP_setPending (s : State) (l : List Pending) : (s.setPending l).memP = s.memP := rfl
@[simp] theorem State.memS_setPending (s : State) (l : List Pending) : (s.setPending l).memS = s.memS := rfl
@[simp] theorem State.spr_setPending (s : State) (l : List Pending) : (s.setPending l).spr = s.spr := rfl
@[simp] theorem State.peersP_setPending (s : State) (l : List Pending) : (s.setPending l).peersP = s.peersP := rfl
@[simp] theorem State.peersS_setPending (s : State) (l : List Pending) : (s.setPending l).peersS = s.peersS := rfl
@[simp] theorem State.pending_setPending (s : State) (l : List Pending) : (s.setPending l).pending = l := rfl
@[simp] theorem State.peerCalls_setPending (s : State) (l : List Pending) : (s.setPending l).peerCalls = s.peerCalls := rfl
@[simp] theorem State.log_setPending (s : State) (l : List Pending) : (s.setPending l).log = s.log := rfl
@[simp] theorem State.response_setPending (s : State) (l : List Pending) : (s.setPending l).response = s.response := rfl
@[simp] theorem State.pch_setPending (s : State) (l : List Pending) (d : PChan) : (s.setPending l).pch d = s.pch d := rfl
@[simp] theorem State.sch_setPending (s : State) (l : List Pending) (d : SChan) : (s.setPending l).sch d = s.sch d := rfl

/-! ### record -/

@[simp] theorem State.engP_record (s : State) (e : Event) : (s.record e).engP = s.engP := rfl
@[simp] theorem State.engS_record (s : State) (e : Event) : (s.record e).engS = s.engS := rfl
@[simp] theorem State.cfg_record (s : State) (e : Event) : (s.record e).cfg = s.cfg := rfl
@[simp] theorem State.memP_record (s : State) (e : Event) : (s.record e).memP = s.memP := rfl
@[simp] theorem State.memS_record (s : State) (e : Event) : (s.record e).memS = s.memS := rfl
@[simp] theorem State.spr_record (s : State) (e : Event) : (s.record e).spr = s.spr := rfl
@[simp] theorem State.peersP_record (s : State) (e : Event) : (s.record e).peersP = s.peersP := rfl
@[simp] theorem State.peersS_record (s : State) (e : Event) : (s.record e).peersS = s.peersS := rfl
@[simp] theorem State.pending_record (s : State) (e : Event) : (s.record e).pending = s.pending := rfl
@[simp] theorem State.peerCalls_record (s : State) (e : Event) : (s.record e).peerCalls = s.peerCalls := rfl
@[simp] theorem State.log_record (s : State) (e : Event) : (s.record e).log = s.log ++ [e] := rfl
@[simp] theorem State.response_record (s : State) (e : Event) : (s.record e).response = s.response := rfl
@[simp] theorem State.pch_record (s : State) (e : Event) (d : PChan) : (s.record e).pch d = s.pch d := rfl
@[simp] theorem State.sch_record (s : State) (e : Event) (d : SChan) : (s.record e).sch d = s.sch d := rfl

/-! ### respond -/

@[simp] theorem State.engP_respond (s : State) (r : Response) : (s.respond r).engP = s.engP := rfl
@[simp] theorem State.engS_respond (s : State) (r : Response) : (s.respond r).engS = s.engS := rfl
@[simp] theorem State.cfg_respond (s : State) (r : Response) : (s.respond r).cfg = s.cfg := rfl
@[simp] theorem State.memP_respond (s : State) (r : Response) : (s.respond r).memP = s.memP := rfl
@[simp] theorem State.memS_respond (s : State) (r : Response) : (s.respond r).memS = s.memS := rfl
@[simp] theorem State.spr_respond (s : State) (r : Response) : (s.respond r).spr = s.spr := rfl
@[simp] theorem State.peersP_respond (s : State) (r : Response) : (s.respond r).peersP = s.peersP := rfl
@[simp] theorem State.peersS_respond (s : State) (r : Response) : (s.respond r).peersS = s.peersS := rfl
@[simp] theorem State.pending_respond (s : State) (r : Response) : (s.respond r).pending = s.pending := rfl
@[simp] theorem State.peerCalls_respond (s : State) (r : Response) : (s.respond r).peerCalls = s.peerCalls := rfl
@[simp] theorem State.log_respond (s : State) (r : Response) : (s.respond r).log = s.log := rfl
@[simp] theorem State.response_respond (s : State) (r : Response) : (s.respond r).response = r := rfl
@[simp] theorem State.pch_respond (s : State) (r : Response) (d : PChan) : (s.respond r).pch d = s.pch d := rfl
@[simp] theorem State.sch_respond (s : State) (r : Response) (d : SChan) : (s.respond r).sch d = s.sch d := rfl

/-! ### Channels -/

/-- A channel of engine P read after one was written. -/
theorem State.pch_setPch (s : State) (c d : PChan) (x : PChannel) :
    (s.setPch c x).pch d = if d = c then x else s.pch d := by
  unfold State.pch State.setPch
  rcases eq_or_ne d c with h | h
  · subst h; simp
  · have hv : (c : Nat) ≠ (d : Nat) := fun e => h (Fin.ext e.symm)
    simp [h, hv]

@[simp] theorem State.pch_setPch_self (s : State) (c : PChan) (x : PChannel) : (s.setPch c x).pch c = x := by
  simp [State.pch_setPch]

theorem State.pch_setPch_ne (s : State) {c d : PChan} (x : PChannel) (h : d ≠ c) :
    (s.setPch c x).pch d = s.pch d := by
  simp [State.pch_setPch, h]

/-- A channel of engine S read after one was written. -/
theorem State.sch_setSch (s : State) (c d : SChan) (x : SChannel) :
    (s.setSch c x).sch d = if d = c then x else s.sch d := by
  unfold State.sch State.setSch
  rcases eq_or_ne d c with h | h
  · subst h; simp
  · have hv : (c : Nat) ≠ (d : Nat) := fun e => h (Fin.ext e.symm)
    simp [h, hv]

@[simp] theorem State.sch_setSch_self (s : State) (c : SChan) (x : SChannel) : (s.setSch c x).sch c = x := by
  simp [State.sch_setSch]

theorem State.sch_setSch_ne (s : State) {c d : SChan} (x : SChannel) (h : d ≠ c) :
    (s.setSch c x).sch d = s.sch d := by
  simp [State.sch_setSch, h]

/-- Writing back the channel read changes nothing. -/
@[simp] theorem State.setPch_pch (s : State) (c : PChan) : s.setPch c (s.pch c) = s := by
  simp [State.setPch, State.pch]

@[simp] theorem State.setSch_sch (s : State) (c : SChan) : s.setSch c (s.sch c) = s := by
  simp [State.setSch, State.sch]

/-- The later of two writes of one channel stands. -/
@[simp] theorem State.setPch_setPch (s : State) (c : PChan) (x y : PChannel) :
    (s.setPch c x).setPch c y = s.setPch c y := by
  simp [State.setPch]

@[simp] theorem State.setSch_setSch (s : State) (c : SChan) (x y : SChannel) :
    (s.setSch c x).setSch c y = s.setSch c y := by
  simp [State.setSch]

@[simp] theorem State.setEngP_engP (s : State) : s.setEngP s.engP = s := rfl

@[simp] theorem State.setEngS_engS (s : State) : s.setEngS s.engS = s := rfl

@[simp] theorem State.setPending_pending (s : State) : s.setPending s.pending = s := rfl

@[simp] theorem State.respond_respond (s : State) (r r' : Response) : (s.respond r).respond r' = s.respond r' := rfl

/-- A channel as an element of its engine's vector. -/
theorem State.engP_ch_getElem (s : State) (c : PChan) : s.engP.ch[c] = s.pch c := rfl

theorem State.engS_ch_getElem (s : State) (c : SChan) : s.engS.ch[c] = s.sch c := rfl

/-- The channels after RESET (R460). -/
theorem EngineP.reset_ch (cfg : Config) (c : PChan) : (EngineP.reset cfg).ch[c] = PChannel.reset cfg.drqResetP[c] := by
  fin_cases c <;> rfl

theorem EngineS.reset_ch (cfg : Config) (c : SChan) : (EngineS.reset cfg).ch[c] = SChannel.reset cfg.drqResetS[c] := by
  fin_cases c <;> rfl

end Sys2Proof.Machine
end

