-- ==== Sys2Proof/Laws/Instr.lean ====
section
/-! SUPPORT. The 364 instructions by family: `instrView` gives every instruction as a family at a channel, so that a
statement for all instructions is proved by cases on these families; and, for each family, its meaning, its encoded form and
its well-formedness. -/

namespace Sys2Proof

open Machine

/-- An instruction is one of these families, at a channel and with its operands. -/
inductive InstrView : Instr → Prop where
  | rdPChcr (c : PChan) : InstrView (.rdPChcr c)
  | wrPChcr (c : PChan) (v : Word) : InstrView (.wrPChcr c v)
  | rdPMadr (c : PChan) : InstrView (.rdPMadr c)
  | wrPMadr (c : PChan) (v : Word) : InstrView (.wrPMadr c v)
  | rdPQwc (c : PChan) : InstrView (.rdPQwc c)
  | wrPQwc (c : PChan) (v : Word) : InstrView (.wrPQwc c v)
  | rdPTadr (c : PChan) : InstrView (.rdPTadr c)
  | wrPTadr (c : PChan) (v : Word) : InstrView (.wrPTadr c v)
  | rdPAsr0 (c : PChan) : InstrView (.rdPAsr0 c)
  | wrPAsr0 (c : PChan) (v : Word) : InstrView (.wrPAsr0 c v)
  | rdPAsr1 (c : PChan) : InstrView (.rdPAsr1 c)
  | wrPAsr1 (c : PChan) (v : Word) : InstrView (.wrPAsr1 c v)
  | rdPSadr (c : PChan) : InstrView (.rdPSadr c)
  | wrPSadr (c : PChan) (v : Word) : InstrView (.wrPSadr c v)
  | rdPDCtrl : InstrView .rdPDCtrl
  | wrPDCtrl (v : Word) : InstrView (.wrPDCtrl v)
  | rdPDStat : InstrView .rdPDStat
  | wrPDStat (v : Word) : InstrView (.wrPDStat v)
  | rdPDPcr : InstrView .rdPDPcr
  | wrPDPcr (v : Word) : InstrView (.wrPDPcr v)
  | rdSMadr (c : SChan) : InstrView (.rdSMadr c)
  | wrSMadr (c : SChan) (v : Word) : InstrView (.wrSMadr c v)
  | rdSBcrAt0 (c : SChan) (w : AccessWidth) : InstrView (.rdSBcrAt0 c w)
  | rdSBcrAt1 (c : SChan) : InstrView (.rdSBcrAt1 c)
  | rdSBcrAt2 (c : SChan) (w : LaneWidth) : InstrView (.rdSBcrAt2 c w)
  | rdSBcrAt3 (c : SChan) : InstrView (.rdSBcrAt3 c)
  | wrSBcrAt0 (c : SChan) (w : AccessWidth) (v : Word) : InstrView (.wrSBcrAt0 c w v)
  | wrSBcrAt1 (c : SChan) (v : Byte) : InstrView (.wrSBcrAt1 c v)
  | wrSBcrAt2 (c : SChan) (w : LaneWidth) (v : BitVec 16) : InstrView (.wrSBcrAt2 c w v)
  | wrSBcrAt3 (c : SChan) (v : Byte) : InstrView (.wrSBcrAt3 c v)
  | rdSChcr (c : SChan) : InstrView (.rdSChcr c)
  | wrSChcr (c : SChan) (v : Word) : InstrView (.wrSChcr c v)
  | rdSTadr (c : SChan) : InstrView (.rdSTadr c)
  | wrSTadr (c : SChan) (v : Word) : InstrView (.wrSTadr c v)
  | rdSDpcr : InstrView .rdSDpcr
  | wrSDpcr (v : Word) : InstrView (.wrSDpcr v)
  | rdSDicr : InstrView .rdSDicr
  | wrSDicr (v : Word) : InstrView (.wrSDicr v)
  | rdSDpcr2 : InstrView .rdSDpcr2
  | wrSDpcr2 (v : Word) : InstrView (.wrSDpcr2 v)
  | rdSDicr2 : InstrView .rdSDicr2
  | wrSDicr2 (v : Word) : InstrView (.wrSDicr2 v)
  | rdSDmacen : InstrView .rdSDmacen
  | wrSDmacen (v : Word) : InstrView (.wrSDmacen v)
  | rdSDmacinten : InstrView .rdSDmacinten
  | wrSDmacinten (v : Word) : InstrView (.wrSDmacinten v)
  | pSrcTagRefe (c : PChan) (t : PTag) : InstrView (.pSrcTagRefe c t)
  | pSrcTagCnt (c : PChan) (t : PTag) : InstrView (.pSrcTagCnt c t)
  | pSrcTagNext (c : PChan) (t : PTag) : InstrView (.pSrcTagNext c t)
  | pSrcTagRef (c : PChan) (t : PTag) : InstrView (.pSrcTagRef c t)
  | pSrcTagRefs (c : PChan) (t : PTag) : InstrView (.pSrcTagRefs c t)
  | pSrcTagCall (c : PChan) (t : PTag) : InstrView (.pSrcTagCall c t)
  | pSrcTagRet (c : PChan) (t : PTag) : InstrView (.pSrcTagRet c t)
  | pSrcTagEnd (c : PChan) (t : PTag) : InstrView (.pSrcTagEnd c t)
  | pDstTagCnts (c : PChan) (t : PTag) : InstrView (.pDstTagCnts c t)
  | pDstTagCnt (c : PChan) (t : PTag) : InstrView (.pDstTagCnt c t)
  | pDstTagId2 (c : PChan) (t : PTag) : InstrView (.pDstTagId2 c t)
  | pDstTagId3 (c : PChan) (t : PTag) : InstrView (.pDstTagId3 c t)
  | pDstTagId4 (c : PChan) (t : PTag) : InstrView (.pDstTagId4 c t)
  | pDstTagId5 (c : PChan) (t : PTag) : InstrView (.pDstTagId5 c t)
  | pDstTagId6 (c : PChan) (t : PTag) : InstrView (.pDstTagId6 c t)
  | pDstTagEnd (c : PChan) (t : PTag) : InstrView (.pDstTagEnd c t)
  | sTag (c : SChan) (t : STag) : InstrView (.sTag c t)
  | serviceP : InstrView .serviceP
  | serviceS : InstrView .serviceS
  | setRequestP (c : PChan) (ready : Bool) : InstrView (.setRequestP c ready)
  | setRequestS (c : SChan) (ready : Bool) : InstrView (.setRequestS c ready)
  | resetP : InstrView .resetP
  | resetS : InstrView .resetS
  | cpcond : InstrView .cpcond

/-- Every instruction is one of them. -/
theorem instrView (i : Instr) : InstrView i := by
  cases i with
  | rdPChcr_0 => exact .rdPChcr 0
  | wrPChcr_0 v => exact .wrPChcr 0 v
  | rdPMadr_0 => exact .rdPMadr 0
  | wrPMadr_0 v => exact .wrPMadr 0 v
  | rdPQwc_0 => exact .rdPQwc 0
  | wrPQwc_0 v => exact .wrPQwc 0 v
  | rdPTadr_0 => exact .rdPTadr 0
  | wrPTadr_0 v => exact .wrPTadr 0 v
  | rdPAsr0_0 => exact .rdPAsr0 0
  | wrPAsr0_0 v => exact .wrPAsr0 0 v
  | rdPAsr1_0 => exact .rdPAsr1 0
  | wrPAsr1_0 v => exact .wrPAsr1 0 v
  | rdPSadr_0 => exact .rdPSadr 0
  | wrPSadr_0 v => exact .wrPSadr 0 v
  | rdPChcr_1 => exact .rdPChcr 1
  | wrPChcr_1 v => exact .wrPChcr 1 v
  | rdPMadr_1 => exact .rdPMadr 1
  | wrPMadr_1 v => exact .wrPMadr 1 v
  | rdPQwc_1 => exact .rdPQwc 1
  | wrPQwc_1 v => exact .wrPQwc 1 v
  | rdPTadr_1 => exact .rdPTadr 1
  | wrPTadr_1 v => exact .wrPTadr 1 v
  | rdPAsr0_1 => exact .rdPAsr0 1
  | wrPAsr0_1 v => exact .wrPAsr0 1 v
  | rdPAsr1_1 => exact .rdPAsr1 1
  | wrPAsr1_1 v => exact .wrPAsr1 1 v
  | rdPSadr_1 => exact .rdPSadr 1
  | wrPSadr_1 v => exact .wrPSadr 1 v
  | rdPChcr_2 => exact .rdPChcr 2
  | wrPChcr_2 v => exact .wrPChcr 2 v
  | rdPMadr_2 => exact .rdPMadr 2
  | wrPMadr_2 v => exact .wrPMadr 2 v
  | rdPQwc_2 => exact .rdPQwc 2
  | wrPQwc_2 v => exact .wrPQwc 2 v
  | rdPTadr_2 => exact .rdPTadr 2
  | wrPTadr_2 v => exact .wrPTadr 2 v
  | rdPAsr0_2 => exact .rdPAsr0 2
  | wrPAsr0_2 v => exact .wrPAsr0 2 v
  | rdPAsr1_2 => exact .rdPAsr1 2
  | wrPAsr1_2 v => exact .wrPAsr1 2 v
  | rdPSadr_2 => exact .rdPSadr 2
  | wrPSadr_2 v => exact .wrPSadr 2 v
  | rdPChcr_3 => exact .rdPChcr 3
  | wrPChcr_3 v => exact .wrPChcr 3 v
  | rdPMadr_3 => exact .rdPMadr 3
  | wrPMadr_3 v => exact .wrPMadr 3 v
  | rdPQwc_3 => exact .rdPQwc 3
  | wrPQwc_3 v => exact .wrPQwc 3 v
  | rdPTadr_3 => exact .rdPTadr 3
  | wrPTadr_3 v => exact .wrPTadr 3 v
  | rdPAsr0_3 => exact .rdPAsr0 3
  | wrPAsr0_3 v => exact .wrPAsr0 3 v
  | rdPAsr1_3 => exact .rdPAsr1 3
  | wrPAsr1_3 v => exact .wrPAsr1 3 v
  | rdPSadr_3 => exact .rdPSadr 3
  | wrPSadr_3 v => exact .wrPSadr 3 v
  | rdPChcr_4 => exact .rdPChcr 4
  | wrPChcr_4 v => exact .wrPChcr 4 v
  | rdPMadr_4 => exact .rdPMadr 4
  | wrPMadr_4 v => exact .wrPMadr 4 v
  | rdPQwc_4 => exact .rdPQwc 4
  | wrPQwc_4 v => exact .wrPQwc 4 v
  | rdPTadr_4 => exact .rdPTadr 4
  | wrPTadr_4 v => exact .wrPTadr 4 v
  | rdPAsr0_4 => exact .rdPAsr0 4
  | wrPAsr0_4 v => exact .wrPAsr0 4 v
  | rdPAsr1_4 => exact .rdPAsr1 4
  | wrPAsr1_4 v => exact .wrPAsr1 4 v
  | rdPSadr_4 => exact .rdPSadr 4
  | wrPSadr_4 v => exact .wrPSadr 4 v
  | rdPChcr_5 => exact .rdPChcr 5
  | wrPChcr_5 v => exact .wrPChcr 5 v
  | rdPMadr_5 => exact .rdPMadr 5
  | wrPMadr_5 v => exact .wrPMadr 5 v
  | rdPQwc_5 => exact .rdPQwc 5
  | wrPQwc_5 v => exact .wrPQwc 5 v
  | rdPTadr_5 => exact .rdPTadr 5
  | wrPTadr_5 v => exact .wrPTadr 5 v
  | rdPAsr0_5 => exact .rdPAsr0 5
  | wrPAsr0_5 v => exact .wrPAsr0 5 v
  | rdPAsr1_5 => exact .rdPAsr1 5
  | wrPAsr1_5 v => exact .wrPAsr1 5 v
  | rdPSadr_5 => exact .rdPSadr 5
  | wrPSadr_5 v => exact .wrPSadr 5 v
  | rdPChcr_6 => exact .rdPChcr 6
  | wrPChcr_6 v => exact .wrPChcr 6 v
  | rdPMadr_6 => exact .rdPMadr 6
  | wrPMadr_6 v => exact .wrPMadr 6 v
  | rdPQwc_6 => exact .rdPQwc 6
  | wrPQwc_6 v => exact .wrPQwc 6 v
  | rdPTadr_6 => exact .rdPTadr 6
  | wrPTadr_6 v => exact .wrPTadr 6 v
  | rdPAsr0_6 => exact .rdPAsr0 6
  | wrPAsr0_6 v => exact .wrPAsr0 6 v
  | rdPAsr1_6 => exact .rdPAsr1 6
  | wrPAsr1_6 v => exact .wrPAsr1 6 v
  | rdPSadr_6 => exact .rdPSadr 6
  | wrPSadr_6 v => exact .wrPSadr 6 v
  | rdPChcr_7 => exact .rdPChcr 7
  | wrPChcr_7 v => exact .wrPChcr 7 v
  | rdPMadr_7 => exact .rdPMadr 7
  | wrPMadr_7 v => exact .wrPMadr 7 v
  | rdPQwc_7 => exact .rdPQwc 7
  | wrPQwc_7 v => exact .wrPQwc 7 v
  | rdPTadr_7 => exact .rdPTadr 7
  | wrPTadr_7 v => exact .wrPTadr 7 v
  | rdPAsr0_7 => exact .rdPAsr0 7
  | wrPAsr0_7 v => exact .wrPAsr0 7 v
  | rdPAsr1_7 => exact .rdPAsr1 7
  | wrPAsr1_7 v => exact .wrPAsr1 7 v
  | rdPSadr_7 => exact .rdPSadr 7
  | wrPSadr_7 v => exact .wrPSadr 7 v
  | rdPChcr_8 => exact .rdPChcr 8
  | wrPChcr_8 v => exact .wrPChcr 8 v
  | rdPMadr_8 => exact .rdPMadr 8
  | wrPMadr_8 v => exact .wrPMadr 8 v
  | rdPQwc_8 => exact .rdPQwc 8
  | wrPQwc_8 v => exact .wrPQwc 8 v
  | rdPTadr_8 => exact .rdPTadr 8
  | wrPTadr_8 v => exact .wrPTadr 8 v
  | rdPAsr0_8 => exact .rdPAsr0 8
  | wrPAsr0_8 v => exact .wrPAsr0 8 v
  | rdPAsr1_8 => exact .rdPAsr1 8
  | wrPAsr1_8 v => exact .wrPAsr1 8 v
  | rdPSadr_8 => exact .rdPSadr 8
  | wrPSadr_8 v => exact .wrPSadr 8 v
  | rdPChcr_9 => exact .rdPChcr 9
  | wrPChcr_9 v => exact .wrPChcr 9 v
  | rdPMadr_9 => exact .rdPMadr 9
  | wrPMadr_9 v => exact .wrPMadr 9 v
  | rdPQwc_9 => exact .rdPQwc 9
  | wrPQwc_9 v => exact .wrPQwc 9 v
  | rdPTadr_9 => exact .rdPTadr 9
  | wrPTadr_9 v => exact .wrPTadr 9 v
  | rdPAsr0_9 => exact .rdPAsr0 9
  | wrPAsr0_9 v => exact .wrPAsr0 9 v
  | rdPAsr1_9 => exact .rdPAsr1 9
  | wrPAsr1_9 v => exact .wrPAsr1 9 v
  | rdPSadr_9 => exact .rdPSadr 9
  | wrPSadr_9 v => exact .wrPSadr 9 v
  | rdPDCtrl => exact .rdPDCtrl
  | wrPDCtrl v => exact .wrPDCtrl v
  | rdPDStat => exact .rdPDStat
  | wrPDStat v => exact .wrPDStat v
  | rdPDPcr => exact .rdPDPcr
  | wrPDPcr v => exact .wrPDPcr v
  | rdSMadr_0 => exact .rdSMadr 0
  | wrSMadr_0 v => exact .wrSMadr 0 v
  | rdSBcr_0_0 w => exact .rdSBcrAt0 0 w
  | rdSBcr_0_1 => exact .rdSBcrAt1 0
  | rdSBcr_0_2 w => exact .rdSBcrAt2 0 w
  | rdSBcr_0_3 => exact .rdSBcrAt3 0
  | wrSBcr_0_0 w v => exact .wrSBcrAt0 0 w v
  | wrSBcr_0_1 v => exact .wrSBcrAt1 0 v
  | wrSBcr_0_2 w v => exact .wrSBcrAt2 0 w v
  | wrSBcr_0_3 v => exact .wrSBcrAt3 0 v
  | rdSChcr_0 => exact .rdSChcr 0
  | wrSChcr_0 v => exact .wrSChcr 0 v
  | rdSTadr_0 => exact .rdSTadr 0
  | wrSTadr_0 v => exact .wrSTadr 0 v
  | rdSMadr_1 => exact .rdSMadr 1
  | wrSMadr_1 v => exact .wrSMadr 1 v
  | rdSBcr_1_0 w => exact .rdSBcrAt0 1 w
  | rdSBcr_1_1 => exact .rdSBcrAt1 1
  | rdSBcr_1_2 w => exact .rdSBcrAt2 1 w
  | rdSBcr_1_3 => exact .rdSBcrAt3 1
  | wrSBcr_1_0 w v => exact .wrSBcrAt0 1 w v
  | wrSBcr_1_1 v => exact .wrSBcrAt1 1 v
  | wrSBcr_1_2 w v => exact .wrSBcrAt2 1 w v
  | wrSBcr_1_3 v => exact .wrSBcrAt3 1 v
  | rdSChcr_1 => exact .rdSChcr 1
  | wrSChcr_1 v => exact .wrSChcr 1 v
  | rdSTadr_1 => exact .rdSTadr 1
  | wrSTadr_1 v => exact .wrSTadr 1 v
  | rdSMadr_2 => exact .rdSMadr 2
  | wrSMadr_2 v => exact .wrSMadr 2 v
  | rdSBcr_2_0 w => exact .rdSBcrAt0 2 w
  | rdSBcr_2_1 => exact .rdSBcrAt1 2
  | rdSBcr_2_2 w => exact .rdSBcrAt2 2 w
  | rdSBcr_2_3 => exact .rdSBcrAt3 2
  | wrSBcr_2_0 w v => exact .wrSBcrAt0 2 w v
  | wrSBcr_2_1 v => exact .wrSBcrAt1 2 v
  | wrSBcr_2_2 w v => exact .wrSBcrAt2 2 w v
  | wrSBcr_2_3 v => exact .wrSBcrAt3 2 v
  | rdSChcr_2 => exact .rdSChcr 2
  | wrSChcr_2 v => exact .wrSChcr 2 v
  | rdSTadr_2 => exact .rdSTadr 2
  | wrSTadr_2 v => exact .wrSTadr 2 v
  | rdSMadr_3 => exact .rdSMadr 3
  | wrSMadr_3 v => exact .wrSMadr 3 v
  | rdSBcr_3_0 w => exact .rdSBcrAt0 3 w
  | rdSBcr_3_1 => exact .rdSBcrAt1 3
  | rdSBcr_3_2 w => exact .rdSBcrAt2 3 w
  | rdSBcr_3_3 => exact .rdSBcrAt3 3
  | wrSBcr_3_0 w v => exact .wrSBcrAt0 3 w v
  | wrSBcr_3_1 v => exact .wrSBcrAt1 3 v
  | wrSBcr_3_2 w v => exact .wrSBcrAt2 3 w v
  | wrSBcr_3_3 v => exact .wrSBcrAt3 3 v
  | rdSChcr_3 => exact .rdSChcr 3
  | wrSChcr_3 v => exact .wrSChcr 3 v
  | rdSTadr_3 => exact .rdSTadr 3
  | wrSTadr_3 v => exact .wrSTadr 3 v
  | rdSMadr_4 => exact .rdSMadr 4
  | wrSMadr_4 v => exact .wrSMadr 4 v
  | rdSBcr_4_0 w => exact .rdSBcrAt0 4 w
  | rdSBcr_4_1 => exact .rdSBcrAt1 4
  | rdSBcr_4_2 w => exact .rdSBcrAt2 4 w
  | rdSBcr_4_3 => exact .rdSBcrAt3 4
  | wrSBcr_4_0 w v => exact .wrSBcrAt0 4 w v
  | wrSBcr_4_1 v => exact .wrSBcrAt1 4 v
  | wrSBcr_4_2 w v => exact .wrSBcrAt2 4 w v
  | wrSBcr_4_3 v => exact .wrSBcrAt3 4 v
  | rdSChcr_4 => exact .rdSChcr 4
  | wrSChcr_4 v => exact .wrSChcr 4 v
  | rdSTadr_4 => exact .rdSTadr 4
  | wrSTadr_4 v => exact .wrSTadr 4 v
  | rdSMadr_5 => exact .rdSMadr 5
  | wrSMadr_5 v => exact .wrSMadr 5 v
  | rdSBcr_5_0 w => exact .rdSBcrAt0 5 w
  | rdSBcr_5_1 => exact .rdSBcrAt1 5
  | rdSBcr_5_2 w => exact .rdSBcrAt2 5 w
  | rdSBcr_5_3 => exact .rdSBcrAt3 5
  | wrSBcr_5_0 w v => exact .wrSBcrAt0 5 w v
  | wrSBcr_5_1 v => exact .wrSBcrAt1 5 v
  | wrSBcr_5_2 w v => exact .wrSBcrAt2 5 w v
  | wrSBcr_5_3 v => exact .wrSBcrAt3 5 v
  | rdSChcr_5 => exact .rdSChcr 5
  | wrSChcr_5 v => exact .wrSChcr 5 v
  | rdSTadr_5 => exact .rdSTadr 5
  | wrSTadr_5 v => exact .wrSTadr 5 v
  | rdSMadr_6 => exact .rdSMadr 6
  | wrSMadr_6 v => exact .wrSMadr 6 v
  | rdSBcr_6_0 w => exact .rdSBcrAt0 6 w
  | rdSBcr_6_1 => exact .rdSBcrAt1 6
  | rdSBcr_6_2 w => exact .rdSBcrAt2 6 w
  | rdSBcr_6_3 => exact .rdSBcrAt3 6
  | wrSBcr_6_0 w v => exact .wrSBcrAt0 6 w v
  | wrSBcr_6_1 v => exact .wrSBcrAt1 6 v
  | wrSBcr_6_2 w v => exact .wrSBcrAt2 6 w v
  | wrSBcr_6_3 v => exact .wrSBcrAt3 6 v
  | rdSChcr_6 => exact .rdSChcr 6
  | wrSChcr_6 v => exact .wrSChcr 6 v
  | rdSTadr_6 => exact .rdSTadr 6
  | wrSTadr_6 v => exact .wrSTadr 6 v
  | rdSMadr_7 => exact .rdSMadr 7
  | wrSMadr_7 v => exact .wrSMadr 7 v
  | rdSBcr_7_0 w => exact .rdSBcrAt0 7 w
  | rdSBcr_7_1 => exact .rdSBcrAt1 7
  | rdSBcr_7_2 w => exact .rdSBcrAt2 7 w
  | rdSBcr_7_3 => exact .rdSBcrAt3 7
  | wrSBcr_7_0 w v => exact .wrSBcrAt0 7 w v
  | wrSBcr_7_1 v => exact .wrSBcrAt1 7 v
  | wrSBcr_7_2 w v => exact .wrSBcrAt2 7 w v
  | wrSBcr_7_3 v => exact .wrSBcrAt3 7 v
  | rdSChcr_7 => exact .rdSChcr 7
  | wrSChcr_7 v => exact .wrSChcr 7 v
  | rdSTadr_7 => exact .rdSTadr 7
  | wrSTadr_7 v => exact .wrSTadr 7 v
  | rdSMadr_8 => exact .rdSMadr 8
  | wrSMadr_8 v => exact .wrSMadr 8 v
  | rdSBcr_8_0 w => exact .rdSBcrAt0 8 w
  | rdSBcr_8_1 => exact .rdSBcrAt1 8
  | rdSBcr_8_2 w => exact .rdSBcrAt2 8 w
  | rdSBcr_8_3 => exact .rdSBcrAt3 8
  | wrSBcr_8_0 w v => exact .wrSBcrAt0 8 w v
  | wrSBcr_8_1 v => exact .wrSBcrAt1 8 v
  | wrSBcr_8_2 w v => exact .wrSBcrAt2 8 w v
  | wrSBcr_8_3 v => exact .wrSBcrAt3 8 v
  | rdSChcr_8 => exact .rdSChcr 8
  | wrSChcr_8 v => exact .wrSChcr 8 v
  | rdSTadr_8 => exact .rdSTadr 8
  | wrSTadr_8 v => exact .wrSTadr 8 v
  | rdSMadr_9 => exact .rdSMadr 9
  | wrSMadr_9 v => exact .wrSMadr 9 v
  | rdSBcr_9_0 w => exact .rdSBcrAt0 9 w
  | rdSBcr_9_1 => exact .rdSBcrAt1 9
  | rdSBcr_9_2 w => exact .rdSBcrAt2 9 w
  | rdSBcr_9_3 => exact .rdSBcrAt3 9
  | wrSBcr_9_0 w v => exact .wrSBcrAt0 9 w v
  | wrSBcr_9_1 v => exact .wrSBcrAt1 9 v
  | wrSBcr_9_2 w v => exact .wrSBcrAt2 9 w v
  | wrSBcr_9_3 v => exact .wrSBcrAt3 9 v
  | rdSChcr_9 => exact .rdSChcr 9
  | wrSChcr_9 v => exact .wrSChcr 9 v
  | rdSTadr_9 => exact .rdSTadr 9
  | wrSTadr_9 v => exact .wrSTadr 9 v
  | rdSMadr_10 => exact .rdSMadr 10
  | wrSMadr_10 v => exact .wrSMadr 10 v
  | rdSBcr_10_0 w => exact .rdSBcrAt0 10 w
  | rdSBcr_10_1 => exact .rdSBcrAt1 10
  | rdSBcr_10_2 w => exact .rdSBcrAt2 10 w
  | rdSBcr_10_3 => exact .rdSBcrAt3 10
  | wrSBcr_10_0 w v => exact .wrSBcrAt0 10 w v
  | wrSBcr_10_1 v => exact .wrSBcrAt1 10 v
  | wrSBcr_10_2 w v => exact .wrSBcrAt2 10 w v
  | wrSBcr_10_3 v => exact .wrSBcrAt3 10 v
  | rdSChcr_10 => exact .rdSChcr 10
  | wrSChcr_10 v => exact .wrSChcr 10 v
  | rdSTadr_10 => exact .rdSTadr 10
  | wrSTadr_10 v => exact .wrSTadr 10 v
  | rdSMadr_11 => exact .rdSMadr 11
  | wrSMadr_11 v => exact .wrSMadr 11 v
  | rdSBcr_11_0 w => exact .rdSBcrAt0 11 w
  | rdSBcr_11_1 => exact .rdSBcrAt1 11
  | rdSBcr_11_2 w => exact .rdSBcrAt2 11 w
  | rdSBcr_11_3 => exact .rdSBcrAt3 11
  | wrSBcr_11_0 w v => exact .wrSBcrAt0 11 w v
  | wrSBcr_11_1 v => exact .wrSBcrAt1 11 v
  | wrSBcr_11_2 w v => exact .wrSBcrAt2 11 w v
  | wrSBcr_11_3 v => exact .wrSBcrAt3 11 v
  | rdSChcr_11 => exact .rdSChcr 11
  | wrSChcr_11 v => exact .wrSChcr 11 v
  | rdSTadr_11 => exact .rdSTadr 11
  | wrSTadr_11 v => exact .wrSTadr 11 v
  | rdSMadr_12 => exact .rdSMadr 12
  | wrSMadr_12 v => exact .wrSMadr 12 v
  | rdSBcr_12_0 w => exact .rdSBcrAt0 12 w
  | rdSBcr_12_1 => exact .rdSBcrAt1 12
  | rdSBcr_12_2 w => exact .rdSBcrAt2 12 w
  | rdSBcr_12_3 => exact .rdSBcrAt3 12
  | wrSBcr_12_0 w v => exact .wrSBcrAt0 12 w v
  | wrSBcr_12_1 v => exact .wrSBcrAt1 12 v
  | wrSBcr_12_2 w v => exact .wrSBcrAt2 12 w v
  | wrSBcr_12_3 v => exact .wrSBcrAt3 12 v
  | rdSChcr_12 => exact .rdSChcr 12
  | wrSChcr_12 v => exact .wrSChcr 12 v
  | rdSTadr_12 => exact .rdSTadr 12
  | wrSTadr_12 v => exact .wrSTadr 12 v
  | rdSDpcr => exact .rdSDpcr
  | wrSDpcr v => exact .wrSDpcr v
  | rdSDicr => exact .rdSDicr
  | wrSDicr v => exact .wrSDicr v
  | rdSDpcr2 => exact .rdSDpcr2
  | wrSDpcr2 v => exact .wrSDpcr2 v
  | rdSDicr2 => exact .rdSDicr2
  | wrSDicr2 v => exact .wrSDicr2 v
  | rdSDmacen => exact .rdSDmacen
  | wrSDmacen v => exact .wrSDmacen v
  | rdSDmacinten => exact .rdSDmacinten
  | wrSDmacinten v => exact .wrSDmacinten v
  | pSrcTagRefe c t => exact .pSrcTagRefe c t
  | pSrcTagCnt c t => exact .pSrcTagCnt c t
  | pSrcTagNext c t => exact .pSrcTagNext c t
  | pSrcTagRef c t => exact .pSrcTagRef c t
  | pSrcTagRefs c t => exact .pSrcTagRefs c t
  | pSrcTagCall c t => exact .pSrcTagCall c t
  | pSrcTagRet c t => exact .pSrcTagRet c t
  | pSrcTagEnd c t => exact .pSrcTagEnd c t
  | pDstTagCnts c t => exact .pDstTagCnts c t
  | pDstTagCnt c t => exact .pDstTagCnt c t
  | pDstTagId2 c t => exact .pDstTagId2 c t
  | pDstTagId3 c t => exact .pDstTagId3 c t
  | pDstTagId4 c t => exact .pDstTagId4 c t
  | pDstTagId5 c t => exact .pDstTagId5 c t
  | pDstTagId6 c t => exact .pDstTagId6 c t
  | pDstTagEnd c t => exact .pDstTagEnd c t
  | sTag c t => exact .sTag c t
  | serviceP => exact .serviceP
  | serviceS => exact .serviceS
  | setRequestP c ready => exact .setRequestP c ready
  | setRequestS c ready => exact .setRequestS c ready
  | resetP => exact .resetP
  | resetS => exact .resetS
  | cpcond => exact .cpcond

namespace Machine

/-! ### The meaning of each family -/

@[simp] theorem exec_rdPChcr (c : PChan) (s : State) :
    exec (.rdPChcr c) s = .next (rdPChcr c s) := by
  fin_cases c <;> rfl

@[simp] theorem exec_wrPChcr (c : PChan) (v : Word) (s : State) :
    exec (.wrPChcr c v) s = .next (wrPChcr c v s) := by
  fin_cases c <;> rfl

@[simp] theorem exec_rdPMadr (c : PChan) (s : State) :
    exec (.rdPMadr c) s = .next (rdPMadr c s) := by
  fin_cases c <;> rfl

@[simp] theorem exec_wrPMadr (c : PChan) (v : Word) (s : State) :
    exec (.wrPMadr c v) s = .next (wrPMadr c v s) := by
  fin_cases c <;> rfl

@[simp] theorem exec_rdPQwc (c : PChan) (s : State) :
    exec (.rdPQwc c) s = .next (rdPQwc c s) := by
  fin_cases c <;> rfl

@[simp] theorem exec_wrPQwc (c : PChan) (v : Word) (s : State) :
    exec (.wrPQwc c v) s = .next (wrPQwc c v s) := by
  fin_cases c <;> rfl

@[simp] theorem exec_rdPTadr (c : PChan) (s : State) :
    exec (.rdPTadr c) s = .next (rdPTadr c s) := by
  fin_cases c <;> rfl

@[simp] theorem exec_wrPTadr (c : PChan) (v : Word) (s : State) :
    exec (.wrPTadr c v) s = .next (wrPTadr c v s) := by
  fin_cases c <;> rfl

@[simp] theorem exec_rdPAsr0 (c : PChan) (s : State) :
    exec (.rdPAsr0 c) s = .next (rdPAsr0 c s) := by
  fin_cases c <;> rfl

@[simp] theorem exec_wrPAsr0 (c : PChan) (v : Word) (s : State) :
    exec (.wrPAsr0 c v) s = .next (wrPAsr0 c v s) := by
  fin_cases c <;> rfl

@[simp] theorem exec_rdPAsr1 (c : PChan) (s : State) :
    exec (.rdPAsr1 c) s = .next (rdPAsr1 c s) := by
  fin_cases c <;> rfl

@[simp] theorem exec_wrPAsr1 (c : PChan) (v : Word) (s : State) :
    exec (.wrPAsr1 c v) s = .next (wrPAsr1 c v s) := by
  fin_cases c <;> rfl

@[simp] theorem exec_rdPSadr (c : PChan) (s : State) :
    exec (.rdPSadr c) s = .next (rdPSadr c s) := by
  fin_cases c <;> rfl

@[simp] theorem exec_wrPSadr (c : PChan) (v : Word) (s : State) :
    exec (.wrPSadr c v) s = .next (wrPSadr c v s) := by
  fin_cases c <;> rfl

@[simp] theorem exec_rdPDCtrl (s : State) : exec .rdPDCtrl s = Machine.execRdPDCtrl s := rfl

@[simp] theorem exec_wrPDCtrl (v : Word) (s : State) : exec (.wrPDCtrl v) s = Machine.execWrPDCtrl v s := rfl

@[simp] theorem exec_rdPDStat (s : State) : exec .rdPDStat s = Machine.execRdPDStat s := rfl

@[simp] theorem exec_wrPDStat (v : Word) (s : State) : exec (.wrPDStat v) s = Machine.execWrPDStat v s := rfl

@[simp] theorem exec_rdPDPcr (s : State) : exec .rdPDPcr s = Machine.execRdPDPcr s := rfl

@[simp] theorem exec_wrPDPcr (v : Word) (s : State) : exec (.wrPDPcr v) s = Machine.execWrPDPcr v s := rfl

@[simp] theorem exec_rdSMadr (c : SChan) (s : State) :
    exec (.rdSMadr c) s = .next (rdSMadr c s) := by
  fin_cases c <;> rfl

@[simp] theorem exec_wrSMadr (c : SChan) (v : Word) (s : State) :
    exec (.wrSMadr c v) s = .next (wrSMadr c v s) := by
  fin_cases c <;> rfl

@[simp] theorem exec_rdSBcrAt0 (c : SChan) (w : AccessWidth) (s : State) :
    exec (.rdSBcrAt0 c w) s = .next (rdSBcr c 0 w s) := by
  fin_cases c <;> rfl

@[simp] theorem exec_rdSBcrAt1 (c : SChan) (s : State) :
    exec (.rdSBcrAt1 c) s = .next (rdSBcr c 1 .w8 s) := by
  fin_cases c <;> rfl

@[simp] theorem exec_rdSBcrAt2 (c : SChan) (w : LaneWidth) (s : State) :
    exec (.rdSBcrAt2 c w) s = .next (rdSBcr c 2 w.toAccess s) := by
  fin_cases c <;> rfl

@[simp] theorem exec_rdSBcrAt3 (c : SChan) (s : State) :
    exec (.rdSBcrAt3 c) s = .next (rdSBcr c 3 .w8 s) := by
  fin_cases c <;> rfl

@[simp] theorem exec_wrSBcrAt0 (c : SChan) (w : AccessWidth) (v : Word) (s : State) :
    exec (.wrSBcrAt0 c w v) s = .next (wrSBcr c 0 w v s) := by
  fin_cases c <;> rfl

@[simp] theorem exec_wrSBcrAt1 (c : SChan) (v : Byte) (s : State) :
    exec (.wrSBcrAt1 c v) s = .next (wrSBcr c 1 .w8 (v.setWidth 32) s) := by
  fin_cases c <;> rfl

@[simp] theorem exec_wrSBcrAt2 (c : SChan) (w : LaneWidth) (v : BitVec 16) (s : State) :
    exec (.wrSBcrAt2 c w v) s = .next (wrSBcr c 2 w.toAccess (v.setWidth 32) s) := by
  fin_cases c <;> rfl

@[simp] theorem exec_wrSBcrAt3 (c : SChan) (v : Byte) (s : State) :
    exec (.wrSBcrAt3 c v) s = .next (wrSBcr c 3 .w8 (v.setWidth 32) s) := by
  fin_cases c <;> rfl

@[simp] theorem exec_rdSChcr (c : SChan) (s : State) :
    exec (.rdSChcr c) s = .next (rdSChcr c s) := by
  fin_cases c <;> rfl

@[simp] theorem exec_wrSChcr (c : SChan) (v : Word) (s : State) :
    exec (.wrSChcr c v) s = .next (wrSChcr c v s) := by
  fin_cases c <;> rfl

@[simp] theorem exec_rdSTadr (c : SChan) (s : State) :
    exec (.rdSTadr c) s = .next (rdSTadr c s) := by
  fin_cases c <;> rfl

@[simp] theorem exec_wrSTadr (c : SChan) (v : Word) (s : State) :
    exec (.wrSTadr c v) s = .next (wrSTadr c v s) := by
  fin_cases c <;> rfl

@[simp] theorem exec_rdSDpcr (s : State) : exec .rdSDpcr s = Machine.execRdSDpcr s := rfl

@[simp] theorem exec_wrSDpcr (v : Word) (s : State) : exec (.wrSDpcr v) s = Machine.execWrSDpcr v s := rfl

@[simp] theorem exec_rdSDicr (s : State) : exec .rdSDicr s = Machine.execRdSDicr s := rfl

@[simp] theorem exec_wrSDicr (v : Word) (s : State) : exec (.wrSDicr v) s = Machine.execWrSDicr v s := rfl

@[simp] theorem exec_rdSDpcr2 (s : State) : exec .rdSDpcr2 s = Machine.execRdSDpcr2 s := rfl

@[simp] theorem exec_wrSDpcr2 (v : Word) (s : State) : exec (.wrSDpcr2 v) s = Machine.execWrSDpcr2 v s := rfl

@[simp] theorem exec_rdSDicr2 (s : State) : exec .rdSDicr2 s = Machine.execRdSDicr2 s := rfl

@[simp] theorem exec_wrSDicr2 (v : Word) (s : State) : exec (.wrSDicr2 v) s = Machine.execWrSDicr2 v s := rfl

@[simp] theorem exec_rdSDmacen (s : State) : exec .rdSDmacen s = Machine.execRdSDmacen s := rfl

@[simp] theorem exec_wrSDmacen (v : Word) (s : State) : exec (.wrSDmacen v) s = Machine.execWrSDmacen v s := rfl

@[simp] theorem exec_rdSDmacinten (s : State) : exec .rdSDmacinten s = Machine.execRdSDmacinten s := rfl

@[simp] theorem exec_wrSDmacinten (v : Word) (s : State) : exec (.wrSDmacinten v) s = Machine.execWrSDmacinten v s := rfl

@[simp] theorem exec_pSrcTagRefe (c : PChan) (t : PTag) (s : State) : exec (.pSrcTagRefe c t) s = Machine.execPSrcTagRefe c t s := rfl

@[simp] theorem exec_pSrcTagCnt (c : PChan) (t : PTag) (s : State) : exec (.pSrcTagCnt c t) s = Machine.execPSrcTagCnt c t s := rfl

@[simp] theorem exec_pSrcTagNext (c : PChan) (t : PTag) (s : State) : exec (.pSrcTagNext c t) s = Machine.execPSrcTagNext c t s := rfl

@[simp] theorem exec_pSrcTagRef (c : PChan) (t : PTag) (s : State) : exec (.pSrcTagRef c t) s = Machine.execPSrcTagRef c t s := rfl

@[simp] theorem exec_pSrcTagRefs (c : PChan) (t : PTag) (s : State) : exec (.pSrcTagRefs c t) s = Machine.execPSrcTagRefs c t s := rfl

@[simp] theorem exec_pSrcTagCall (c : PChan) (t : PTag) (s : State) : exec (.pSrcTagCall c t) s = Machine.execPSrcTagCall c t s := rfl

@[simp] theorem exec_pSrcTagRet (c : PChan) (t : PTag) (s : State) : exec (.pSrcTagRet c t) s = Machine.execPSrcTagRet c t s := rfl

@[simp] theorem exec_pSrcTagEnd (c : PChan) (t : PTag) (s : State) : exec (.pSrcTagEnd c t) s = Machine.execPSrcTagEnd c t s := rfl

@[simp] theorem exec_pDstTagCnts (c : PChan) (t : PTag) (s : State) : exec (.pDstTagCnts c t) s = Machine.execPDstTagCnts c t s := rfl

@[simp] theorem exec_pDstTagCnt (c : PChan) (t : PTag) (s : State) : exec (.pDstTagCnt c t) s = Machine.execPDstTagCnt c t s := rfl

@[simp] theorem exec_pDstTagId2 (c : PChan) (t : PTag) (s : State) : exec (.pDstTagId2 c t) s = Machine.execPDstTagId2 c t s := rfl

@[simp] theorem exec_pDstTagId3 (c : PChan) (t : PTag) (s : State) : exec (.pDstTagId3 c t) s = Machine.execPDstTagId3 c t s := rfl

@[simp] theorem exec_pDstTagId4 (c : PChan) (t : PTag) (s : State) : exec (.pDstTagId4 c t) s = Machine.execPDstTagId4 c t s := rfl

@[simp] theorem exec_pDstTagId5 (c : PChan) (t : PTag) (s : State) : exec (.pDstTagId5 c t) s = Machine.execPDstTagId5 c t s := rfl

@[simp] theorem exec_pDstTagId6 (c : PChan) (t : PTag) (s : State) : exec (.pDstTagId6 c t) s = Machine.execPDstTagId6 c t s := rfl

@[simp] theorem exec_pDstTagEnd (c : PChan) (t : PTag) (s : State) : exec (.pDstTagEnd c t) s = Machine.execPDstTagEnd c t s := rfl

@[simp] theorem exec_sTag (c : SChan) (t : STag) (s : State) : exec (.sTag c t) s = Machine.execSTag c t s := rfl

@[simp] theorem exec_serviceP (s : State) : exec .serviceP s = Machine.execServiceP s := rfl

@[simp] theorem exec_serviceS (s : State) : exec .serviceS s = Machine.execServiceS s := rfl

@[simp] theorem exec_setRequestP (c : PChan) (ready : Bool) (s : State) : exec (.setRequestP c ready) s = Machine.execSetRequestP c ready s := rfl

@[simp] theorem exec_setRequestS (c : SChan) (ready : Bool) (s : State) : exec (.setRequestS c ready) s = Machine.execSetRequestS c ready s := rfl

@[simp] theorem exec_resetP (s : State) : exec .resetP s = Machine.execResetP s := rfl

@[simp] theorem exec_resetS (s : State) : exec .resetS s = Machine.execResetS s := rfl

@[simp] theorem exec_cpcond (s : State) : exec .cpcond s = Machine.execCpcond s := rfl

end Machine

/-! ### The encoded form of each family -/

theorem encode_rdPChcr (c : PChan) :
    encode (.rdPChcr c) = .op (.read (BitVec.ofNat 32 ((RegRef.pCh c .chcr).address)) .w32) := by
  fin_cases c <;> rfl

theorem encode_wrPChcr (c : PChan) (v : Word) :
    encode (.wrPChcr c v) = .op (.write (BitVec.ofNat 32 ((RegRef.pCh c .chcr).address)) .w32 v) := by
  fin_cases c <;> rfl

theorem encode_rdPMadr (c : PChan) :
    encode (.rdPMadr c) = .op (.read (BitVec.ofNat 32 ((RegRef.pCh c .madr).address)) .w32) := by
  fin_cases c <;> rfl

theorem encode_wrPMadr (c : PChan) (v : Word) :
    encode (.wrPMadr c v) = .op (.write (BitVec.ofNat 32 ((RegRef.pCh c .madr).address)) .w32 v) := by
  fin_cases c <;> rfl

theorem encode_rdPQwc (c : PChan) :
    encode (.rdPQwc c) = .op (.read (BitVec.ofNat 32 ((RegRef.pCh c .qwc).address)) .w32) := by
  fin_cases c <;> rfl

theorem encode_wrPQwc (c : PChan) (v : Word) :
    encode (.wrPQwc c v) = .op (.write (BitVec.ofNat 32 ((RegRef.pCh c .qwc).address)) .w32 v) := by
  fin_cases c <;> rfl

theorem encode_rdPTadr (c : PChan) :
    encode (.rdPTadr c) = .op (.read (BitVec.ofNat 32 ((RegRef.pCh c .tadr).address)) .w32) := by
  fin_cases c <;> rfl

theorem encode_wrPTadr (c : PChan) (v : Word) :
    encode (.wrPTadr c v) = .op (.write (BitVec.ofNat 32 ((RegRef.pCh c .tadr).address)) .w32 v) := by
  fin_cases c <;> rfl

theorem encode_rdPAsr0 (c : PChan) :
    encode (.rdPAsr0 c) = .op (.read (BitVec.ofNat 32 ((RegRef.pCh c .asr0).address)) .w32) := by
  fin_cases c <;> rfl

theorem encode_wrPAsr0 (c : PChan) (v : Word) :
    encode (.wrPAsr0 c v) = .op (.write (BitVec.ofNat 32 ((RegRef.pCh c .asr0).address)) .w32 v) := by
  fin_cases c <;> rfl

theorem encode_rdPAsr1 (c : PChan) :
    encode (.rdPAsr1 c) = .op (.read (BitVec.ofNat 32 ((RegRef.pCh c .asr1).address)) .w32) := by
  fin_cases c <;> rfl

theorem encode_wrPAsr1 (c : PChan) (v : Word) :
    encode (.wrPAsr1 c v) = .op (.write (BitVec.ofNat 32 ((RegRef.pCh c .asr1).address)) .w32 v) := by
  fin_cases c <;> rfl

theorem encode_rdPSadr (c : PChan) :
    encode (.rdPSadr c) = .op (.read (BitVec.ofNat 32 ((RegRef.pCh c .sadr).address)) .w32) := by
  fin_cases c <;> rfl

theorem encode_wrPSadr (c : PChan) (v : Word) :
    encode (.wrPSadr c v) = .op (.write (BitVec.ofNat 32 ((RegRef.pCh c .sadr).address)) .w32 v) := by
  fin_cases c <;> rfl

theorem encode_rdPDCtrl :
    encode .rdPDCtrl = .op (.read (BitVec.ofNat 32 (RegRef.pWide .dCtrl).address) .w32) := rfl

theorem encode_wrPDCtrl (v : Word) :
    encode (.wrPDCtrl v) = .op (.write (BitVec.ofNat 32 (RegRef.pWide .dCtrl).address) .w32 v) := rfl

theorem encode_rdPDStat :
    encode .rdPDStat = .op (.read (BitVec.ofNat 32 (RegRef.pWide .dStat).address) .w32) := rfl

theorem encode_wrPDStat (v : Word) :
    encode (.wrPDStat v) = .op (.write (BitVec.ofNat 32 (RegRef.pWide .dStat).address) .w32 v) := rfl

theorem encode_rdPDPcr :
    encode .rdPDPcr = .op (.read (BitVec.ofNat 32 (RegRef.pWide .dPcr).address) .w32) := rfl

theorem encode_wrPDPcr (v : Word) :
    encode (.wrPDPcr v) = .op (.write (BitVec.ofNat 32 (RegRef.pWide .dPcr).address) .w32 v) := rfl

theorem encode_rdSMadr (c : SChan) :
    encode (.rdSMadr c) = .op (.read (BitVec.ofNat 32 ((RegRef.sCh c .madr).address)) .w32) := by
  fin_cases c <;> rfl

theorem encode_wrSMadr (c : SChan) (v : Word) :
    encode (.wrSMadr c v) = .op (.write (BitVec.ofNat 32 ((RegRef.sCh c .madr).address)) .w32 v) := by
  fin_cases c <;> rfl

theorem encode_rdSBcrAt0 (c : SChan) (w : AccessWidth) :
    encode (.rdSBcrAt0 c w) = .op (.read (BitVec.ofNat 32 ((RegRef.sCh c .bcr).address)) w) := by
  fin_cases c <;> rfl

theorem encode_rdSBcrAt1 (c : SChan) :
    encode (.rdSBcrAt1 c) = .op (.read (BitVec.ofNat 32 ((RegRef.sCh c .bcr).address + 1)) .w8) := by
  fin_cases c <;> rfl

theorem encode_rdSBcrAt2 (c : SChan) (w : LaneWidth) :
    encode (.rdSBcrAt2 c w) = .op (.read (BitVec.ofNat 32 ((RegRef.sCh c .bcr).address + 2)) w.toAccess) := by
  fin_cases c <;> rfl

theorem encode_rdSBcrAt3 (c : SChan) :
    encode (.rdSBcrAt3 c) = .op (.read (BitVec.ofNat 32 ((RegRef.sCh c .bcr).address + 3)) .w8) := by
  fin_cases c <;> rfl

theorem encode_wrSBcrAt0 (c : SChan) (w : AccessWidth) (v : Word) :
    encode (.wrSBcrAt0 c w v) = .op (.write (BitVec.ofNat 32 ((RegRef.sCh c .bcr).address)) w v) := by
  fin_cases c <;> rfl

theorem encode_wrSBcrAt1 (c : SChan) (v : Byte) :
    encode (.wrSBcrAt1 c v) = .op (.write (BitVec.ofNat 32 ((RegRef.sCh c .bcr).address + 1)) .w8 (v.setWidth 32)) := by
  fin_cases c <;> rfl

theorem encode_wrSBcrAt2 (c : SChan) (w : LaneWidth) (v : BitVec 16) :
    encode (.wrSBcrAt2 c w v) = .op (.write (BitVec.ofNat 32 ((RegRef.sCh c .bcr).address + 2)) w.toAccess (v.setWidth 32)) := by
  fin_cases c <;> rfl

theorem encode_wrSBcrAt3 (c : SChan) (v : Byte) :
    encode (.wrSBcrAt3 c v) = .op (.write (BitVec.ofNat 32 ((RegRef.sCh c .bcr).address + 3)) .w8 (v.setWidth 32)) := by
  fin_cases c <;> rfl

theorem encode_rdSChcr (c : SChan) :
    encode (.rdSChcr c) = .op (.read (BitVec.ofNat 32 ((RegRef.sCh c .chcr).address)) .w32) := by
  fin_cases c <;> rfl

theorem encode_wrSChcr (c : SChan) (v : Word) :
    encode (.wrSChcr c v) = .op (.write (BitVec.ofNat 32 ((RegRef.sCh c .chcr).address)) .w32 v) := by
  fin_cases c <;> rfl

theorem encode_rdSTadr (c : SChan) :
    encode (.rdSTadr c) = .op (.read (BitVec.ofNat 32 ((RegRef.sCh c .tadr).address)) .w32) := by
  fin_cases c <;> rfl

theorem encode_wrSTadr (c : SChan) (v : Word) :
    encode (.wrSTadr c v) = .op (.write (BitVec.ofNat 32 ((RegRef.sCh c .tadr).address)) .w32 v) := by
  fin_cases c <;> rfl

theorem encode_rdSDpcr :
    encode .rdSDpcr = .op (.read (BitVec.ofNat 32 (RegRef.sWide .dpcr).address) .w32) := rfl

theorem encode_wrSDpcr (v : Word) :
    encode (.wrSDpcr v) = .op (.write (BitVec.ofNat 32 (RegRef.sWide .dpcr).address) .w32 v) := rfl

theorem encode_rdSDicr :
    encode .rdSDicr = .op (.read (BitVec.ofNat 32 (RegRef.sWide .dicr).address) .w32) := rfl

theorem encode_wrSDicr (v : Word) :
    encode (.wrSDicr v) = .op (.write (BitVec.ofNat 32 (RegRef.sWide .dicr).address) .w32 v) := rfl

theorem encode_rdSDpcr2 :
    encode .rdSDpcr2 = .op (.read (BitVec.ofNat 32 (RegRef.sWide .dpcr2).address) .w32) := rfl

theorem encode_wrSDpcr2 (v : Word) :
    encode (.wrSDpcr2 v) = .op (.write (BitVec.ofNat 32 (RegRef.sWide .dpcr2).address) .w32 v) := rfl

theorem encode_rdSDicr2 :
    encode .rdSDicr2 = .op (.read (BitVec.ofNat 32 (RegRef.sWide .dicr2).address) .w32) := rfl

theorem encode_wrSDicr2 (v : Word) :
    encode (.wrSDicr2 v) = .op (.write (BitVec.ofNat 32 (RegRef.sWide .dicr2).address) .w32 v) := rfl

theorem encode_rdSDmacen :
    encode .rdSDmacen = .op (.read (BitVec.ofNat 32 (RegRef.sWide .dmacen).address) .w32) := rfl

theorem encode_wrSDmacen (v : Word) :
    encode (.wrSDmacen v) = .op (.write (BitVec.ofNat 32 (RegRef.sWide .dmacen).address) .w32 v) := rfl

theorem encode_rdSDmacinten :
    encode .rdSDmacinten = .op (.read (BitVec.ofNat 32 (RegRef.sWide .dmacinten).address) .w32) := rfl

theorem encode_wrSDmacinten (v : Word) :
    encode (.wrSDmacinten v) = .op (.write (BitVec.ofNat 32 (RegRef.sWide .dmacinten).address) .w32 v) := rfl

theorem encode_pSrcTagRefe (c : PChan) (t : PTag) : encode (.pSrcTagRefe c t) = .pTag .source c (packPTag 0 t) := rfl

theorem encode_pSrcTagCnt (c : PChan) (t : PTag) : encode (.pSrcTagCnt c t) = .pTag .source c (packPTag 1 t) := rfl

theorem encode_pSrcTagNext (c : PChan) (t : PTag) : encode (.pSrcTagNext c t) = .pTag .source c (packPTag 2 t) := rfl

theorem encode_pSrcTagRef (c : PChan) (t : PTag) : encode (.pSrcTagRef c t) = .pTag .source c (packPTag 3 t) := rfl

theorem encode_pSrcTagRefs (c : PChan) (t : PTag) : encode (.pSrcTagRefs c t) = .pTag .source c (packPTag 4 t) := rfl

theorem encode_pSrcTagCall (c : PChan) (t : PTag) : encode (.pSrcTagCall c t) = .pTag .source c (packPTag 5 t) := rfl

theorem encode_pSrcTagRet (c : PChan) (t : PTag) : encode (.pSrcTagRet c t) = .pTag .source c (packPTag 6 t) := rfl

theorem encode_pSrcTagEnd (c : PChan) (t : PTag) : encode (.pSrcTagEnd c t) = .pTag .source c (packPTag 7 t) := rfl

theorem encode_pDstTagCnts (c : PChan) (t : PTag) : encode (.pDstTagCnts c t) = .pTag .destination c (packPTag 0 t) := rfl

theorem encode_pDstTagCnt (c : PChan) (t : PTag) : encode (.pDstTagCnt c t) = .pTag .destination c (packPTag 1 t) := rfl

theorem encode_pDstTagId2 (c : PChan) (t : PTag) : encode (.pDstTagId2 c t) = .pTag .destination c (packPTag 2 t) := rfl

theorem encode_pDstTagId3 (c : PChan) (t : PTag) : encode (.pDstTagId3 c t) = .pTag .destination c (packPTag 3 t) := rfl

theorem encode_pDstTagId4 (c : PChan) (t : PTag) : encode (.pDstTagId4 c t) = .pTag .destination c (packPTag 4 t) := rfl

theorem encode_pDstTagId5 (c : PChan) (t : PTag) : encode (.pDstTagId5 c t) = .pTag .destination c (packPTag 5 t) := rfl

theorem encode_pDstTagId6 (c : PChan) (t : PTag) : encode (.pDstTagId6 c t) = .pTag .destination c (packPTag 6 t) := rfl

theorem encode_pDstTagEnd (c : PChan) (t : PTag) : encode (.pDstTagEnd c t) = .pTag .destination c (packPTag 7 t) := rfl

theorem encode_sTag (c : SChan) (t : STag) : encode (.sTag c t) = .sTag c (packSTag0 t) t.count := rfl

theorem encode_serviceP : encode .serviceP = .op .serviceP := rfl

theorem encode_serviceS : encode .serviceS = .op .serviceS := rfl

theorem encode_setRequestP (c : PChan) (ready : Bool) : encode (.setRequestP c ready) = .op (.setRequestP c ready) := rfl

theorem encode_setRequestS (c : SChan) (ready : Bool) : encode (.setRequestS c ready) = .op (.setRequestS c ready) := rfl

theorem encode_resetP : encode .resetP = .op .resetP := rfl

theorem encode_resetS : encode .resetS = .op .resetS := rfl

theorem encode_cpcond : encode .cpcond = .op .cpcond := rfl

/-! ### Well-formedness -/

theorem wellFormed_wrSBcrAt0 (cfg : Config) (c : SChan) (w : AccessWidth) (v : Word) : Instr.wellFormed cfg (.wrSBcrAt0 c w v) = valueFits w v := by
  fin_cases c <;> rfl

theorem wellFormed_wrSBcrAt2 (cfg : Config) (c : SChan) (w : LaneWidth) (v : BitVec 16) : Instr.wellFormed cfg (.wrSBcrAt2 c w v) = laneFits w v := by
  fin_cases c <;> rfl

theorem wellFormed_rdPChcr (cfg : Config) (c : PChan) : Instr.wellFormed cfg (.rdPChcr c) = true := by
  fin_cases c <;> rfl

theorem wellFormed_wrPChcr (cfg : Config) (c : PChan) (v : Word) : Instr.wellFormed cfg (.wrPChcr c v) = true := by
  fin_cases c <;> rfl

theorem wellFormed_rdPMadr (cfg : Config) (c : PChan) : Instr.wellFormed cfg (.rdPMadr c) = true := by
  fin_cases c <;> rfl

theorem wellFormed_wrPMadr (cfg : Config) (c : PChan) (v : Word) : Instr.wellFormed cfg (.wrPMadr c v) = true := by
  fin_cases c <;> rfl

theorem wellFormed_rdPQwc (cfg : Config) (c : PChan) : Instr.wellFormed cfg (.rdPQwc c) = true := by
  fin_cases c <;> rfl

theorem wellFormed_wrPQwc (cfg : Config) (c : PChan) (v : Word) : Instr.wellFormed cfg (.wrPQwc c v) = true := by
  fin_cases c <;> rfl

theorem wellFormed_rdPTadr (cfg : Config) (c : PChan) : Instr.wellFormed cfg (.rdPTadr c) = true := by
  fin_cases c <;> rfl

theorem wellFormed_wrPTadr (cfg : Config) (c : PChan) (v : Word) : Instr.wellFormed cfg (.wrPTadr c v) = true := by
  fin_cases c <;> rfl

theorem wellFormed_rdPAsr0 (cfg : Config) (c : PChan) : Instr.wellFormed cfg (.rdPAsr0 c) = true := by
  fin_cases c <;> rfl

theorem wellFormed_wrPAsr0 (cfg : Config) (c : PChan) (v : Word) : Instr.wellFormed cfg (.wrPAsr0 c v) = true := by
  fin_cases c <;> rfl

theorem wellFormed_rdPAsr1 (cfg : Config) (c : PChan) : Instr.wellFormed cfg (.rdPAsr1 c) = true := by
  fin_cases c <;> rfl

theorem wellFormed_wrPAsr1 (cfg : Config) (c : PChan) (v : Word) : Instr.wellFormed cfg (.wrPAsr1 c v) = true := by
  fin_cases c <;> rfl

theorem wellFormed_rdPSadr (cfg : Config) (c : PChan) : Instr.wellFormed cfg (.rdPSadr c) = true := by
  fin_cases c <;> rfl

theorem wellFormed_wrPSadr (cfg : Config) (c : PChan) (v : Word) : Instr.wellFormed cfg (.wrPSadr c v) = true := by
  fin_cases c <;> rfl

theorem wellFormed_rdSMadr (cfg : Config) (c : SChan) : Instr.wellFormed cfg (.rdSMadr c) = true := by
  fin_cases c <;> rfl

theorem wellFormed_wrSMadr (cfg : Config) (c : SChan) (v : Word) : Instr.wellFormed cfg (.wrSMadr c v) = true := by
  fin_cases c <;> rfl

theorem wellFormed_rdSBcrAt0 (cfg : Config) (c : SChan) (w : AccessWidth) : Instr.wellFormed cfg (.rdSBcrAt0 c w) = true := by
  fin_cases c <;> rfl

theorem wellFormed_rdSBcrAt1 (cfg : Config) (c : SChan) : Instr.wellFormed cfg (.rdSBcrAt1 c) = true := by
  fin_cases c <;> rfl

theorem wellFormed_rdSBcrAt2 (cfg : Config) (c : SChan) (w : LaneWidth) : Instr.wellFormed cfg (.rdSBcrAt2 c w) = true := by
  fin_cases c <;> rfl

theorem wellFormed_rdSBcrAt3 (cfg : Config) (c : SChan) : Instr.wellFormed cfg (.rdSBcrAt3 c) = true := by
  fin_cases c <;> rfl

theorem wellFormed_wrSBcrAt1 (cfg : Config) (c : SChan) (v : Byte) : Instr.wellFormed cfg (.wrSBcrAt1 c v) = true := by
  fin_cases c <;> rfl

theorem wellFormed_wrSBcrAt3 (cfg : Config) (c : SChan) (v : Byte) : Instr.wellFormed cfg (.wrSBcrAt3 c v) = true := by
  fin_cases c <;> rfl

theorem wellFormed_rdSChcr (cfg : Config) (c : SChan) : Instr.wellFormed cfg (.rdSChcr c) = true := by
  fin_cases c <;> rfl

theorem wellFormed_wrSChcr (cfg : Config) (c : SChan) (v : Word) : Instr.wellFormed cfg (.wrSChcr c v) = true := by
  fin_cases c <;> rfl

theorem wellFormed_rdSTadr (cfg : Config) (c : SChan) : Instr.wellFormed cfg (.rdSTadr c) = true := by
  fin_cases c <;> rfl

theorem wellFormed_wrSTadr (cfg : Config) (c : SChan) (v : Word) : Instr.wellFormed cfg (.wrSTadr c v) = true := by
  fin_cases c <;> rfl

end Sys2Proof
end

