-- ==== Sys2Proof/Laws/Ops.lean ====
section
/-! SUPPORT. What the shared operations of Machine/Ops.lean and Machine/Flags.lean do, each said once: the ports, the
peer calls, the re-evaluations, the fatal error and the register accesses. -/

namespace Sys2Proof.Machine

/-! ### Halting -/

@[simp] theorem halted_P (s : State) : halted .P s = s.engP.fault.isSome := rfl

@[simp] theorem halted_S (s : State) : halted .S s = s.engS.fault.isSome := rfl

theorem readReg_next {e : Engine} {s : State} (v : Word) (h : halted e s = false) :
    readReg e v s = s.respond (.value v) := by simp [readReg, h]

theorem readReg_noStep {e : Engine} {s : State} (v : Word) (h : halted e s = true) :
    readReg e v s = s.respond .noStep := by simp [readReg, h]

theorem writeReg_next {e : Engine} {s : State} (s1 : State) (h : halted e s = false) :
    writeReg e s1 s = s1.respond .done := by simp [writeReg, h]

theorem writeReg_noStep {e : Engine} {s : State} (s1 : State) (h : halted e s = true) :
    writeReg e s1 s = s.respond .noStep := by simp [writeReg, h]

/-! ### Re-evaluation -/

/-- ReevalP, said once: the flag is evaluated, and a raise is recorded if it rises. -/
theorem reevalP_eq (s : State) : reevalP s =
    { s with
      engP := { s.engP with master := masterP s.engP.cis s.engP.cim }
      log := s.log ++ if masterP s.engP.cis s.engP.cim && !s.engP.master then [.intcRaise .P] else [] } := by
  unfold reevalP
  by_cases h : (masterP s.engP.cis s.engP.cim && !s.engP.master) = true
  · simp [h, State.setEngP, State.record]
  · simp [h, State.setEngP]

/-- ReevalS, said once. -/
theorem reevalS_eq (s : State) : reevalS s =
    { s with
      engS := { s.engS with mif := masterS s.engS }
      log := s.log ++
        if masterS s.engS && !s.engS.mif && !mid s.engS.dmacinten then [.intcRaise .S] else [] } := by
  unfold reevalS
  by_cases h : (masterS s.engS && !s.engS.mif && !mid s.engS.dmacinten) = true
  · simp [h, State.setEngS, State.record]
  · simp [h, State.setEngS]

/-! ### Peer calls -/

/-- What a call leaves of engine P's peers: the script of the channel, or the counter, moved past the answer. -/
theorem dropAnswerP_cases (c : PChan) (s : State) :
    (∃ r rest, s.peersP[c] = r :: rest ∧ dropAnswerP c s = { s with peersP := s.peersP.set c rest }) ∨
    (s.peersP[c] = [] ∧ dropAnswerP c s = { s with peerCalls := s.peerCalls + 1 }) := by
  unfold dropAnswerP
  cases h : s.peersP[c] with
  | nil => exact .inr ⟨rfl, rfl⟩
  | cons r rest => exact .inl ⟨r, rest, rfl, rfl⟩

/-- A peer call of engine P, said once: the channel's request flag as the peer sets it, the event recorded, the peer's own
bookkeeping; nothing else. -/
theorem afterCallP_eq (c : PChan) (e : Event) (s : State) :
    afterCallP c e s =
      { s with
        engP := { s.engP with
          ch := s.engP.ch.set c { s.pch c with drq := (answerP s c).request.getD (s.pch c).drq } }
        peersP := (dropAnswerP c s).peersP
        peerCalls := (dropAnswerP c s).peerCalls
        log := s.log ++ [e] } := by
  have hself : s.engP.ch.set c { s.pch c with drq := (s.pch c).drq } = s.engP.ch := by
    show s.engP.ch.set c (s.pch c) = s.engP.ch
    simp [State.pch]
  unfold afterCallP peerRequestP
  rcases dropAnswerP_cases c s with ⟨r, rest, -, h⟩ | ⟨-, h⟩ <;> rw [h] <;>
    cases (answerP s c).request <;> first | rfl | (simp only [Option.getD_none, hself]; rfl)

/-- The peers of the other channels are not called. -/
theorem peersP_dropAnswerP_ne {c d : PChan} (s : State) (h : d ≠ c) :
    (dropAnswerP c s).peersP[d] = s.peersP[d] := by
  have hv : c.val ≠ d.val := fun e => h (Fin.ext e.symm)
  rcases dropAnswerP_cases c s with ⟨r, rest, -, he⟩ | ⟨-, he⟩
  · simp [he, hv]
  · simp [he]

theorem dropAnswerS_cases (c : SChan) (s : State) :
    (∃ r rest, s.peersS[c] = r :: rest ∧ dropAnswerS c s = { s with peersS := s.peersS.set c rest }) ∨
    (s.peersS[c] = [] ∧ dropAnswerS c s = { s with peerCalls := s.peerCalls + 1 }) := by
  unfold dropAnswerS
  cases h : s.peersS[c] with
  | nil => exact .inr ⟨rfl, rfl⟩
  | cons r rest => exact .inl ⟨r, rest, rfl, rfl⟩

/-- A peer call of engine S, said once. -/
theorem afterCallS_eq (c : SChan) (e : Event) (s : State) :
    afterCallS c e s =
      { s with
        engS := { s.engS with
          ch := s.engS.ch.set c { s.sch c with drq := (answerS s c).request.getD (s.sch c).drq } }
        peersS := (dropAnswerS c s).peersS
        peerCalls := (dropAnswerS c s).peerCalls
        log := s.log ++ [e] } := by
  have hself : s.engS.ch.set c { s.sch c with drq := (s.sch c).drq } = s.engS.ch := by
    show s.engS.ch.set c (s.sch c) = s.engS.ch
    simp [State.sch]
  unfold afterCallS peerRequestS
  rcases dropAnswerS_cases c s with ⟨r, rest, -, h⟩ | ⟨-, h⟩ <;> rw [h] <;>
    cases (answerS s c).request <;> first | rfl | (simp only [Option.getD_none, hself]; rfl)

theorem peersS_dropAnswerS_ne {c d : SChan} (s : State) (h : d ≠ c) :
    (dropAnswerS c s).peersS[d] = s.peersS[d] := by
  have hv : c.val ≠ d.val := fun e => h (Fin.ext e.symm)
  rcases dropAnswerS_cases c s with ⟨r, rest, -, he⟩ | ⟨-, he⟩
  · simp [he, hv]
  · simp [he]

/-! ### The fatal error (R18, R400, R404) -/

/-- A fatal error of engine P: the engine as it was before the operation, plus the record; the outside as the operation
left it. -/
theorem takeFatal_P (s0 s1 : State) (r : FaultRecord) :
    takeFatal .P s0 s1 r = { s1 with engP := { s0.engP with fault := some r }, response := .fault r } := rfl

theorem takeFatal_S (s0 s1 : State) (r : FaultRecord) :
    takeFatal .S s0 s1 r = { s1 with engS := { s0.engS with fault := some r }, response := .fault r } := rfl

end Sys2Proof.Machine
end

