-- ==== Sys2Proof/Laws/Access.lean ====
section
/-! SUPPORT. The rows of the register map, each said once: what an access decodes to, what its row encodes to, the engine it
belongs to, and which shared operation an instruction's meaning is (`Shape`); the bits of the composed registers and of a BCR
lane; the fields of a packed tag. -/

namespace Sys2Proof

open Machine

/-! ### Accesses and their rows -/

/-- An access that finds a register lies in its word, in its engine's window (R109, R190). -/
theorem decodeAddress_ok {a : Word} {w : AccessWidth} {kind : AccessKind} {r : RegRef} {k : Nat}
    (h : decodeAddress a w kind = .ok (r, k)) :
    windowOf a = some r.engine ∧ k < 4 ∧ k = a.toNat % 4 ∧ wordAddress a = r.address ∧ a =
        BitVec.ofNat 32 (r.address + k) := by
  unfold decodeAddress at h
  split at h
  · cases h
  · rename_i e hw
    split at h
    · cases h
    · rename_i r' hl
      obtain ⟨h1, h2⟩ := lookupReg_some hl
      simp only [Except.ok.injEq, Prod.mk.injEq] at h
      obtain ⟨rfl, rfl⟩ := h
      refine ⟨by rw [hw, h1], by omega, rfl, h2.symm, ?_⟩
      rw [h2]
      unfold wordAddress
      rw [Nat.sub_add_cancel (Nat.mod_le _ _)]
      simp

theorem encode_readRow {r : RegRef} {k : Nat} {w : AccessWidth} {i : Instr} (h : readRow r k w = some i) :
    encode i = .op (.read (BitVec.ofNat 32 (r.address + k)) w) := by
  unfold readRow at h
  split at h
  all_goals first
    | (cases h
       done)
    | (simp only [Option.some.injEq] at h
       subst h
       simp only [encode_rdPChcr, encode_rdPMadr, encode_rdPQwc, encode_rdPTadr, encode_rdPAsr0, encode_rdPAsr1,
         encode_rdPSadr, encode_rdSMadr, encode_rdSChcr, encode_rdSTadr, encode_rdSBcrAt0, encode_rdSBcrAt1,
         encode_rdSBcrAt2, encode_rdSBcrAt3, encode_rdPDCtrl, encode_rdPDStat, encode_rdPDPcr, encode_rdSDpcr,
         encode_rdSDicr, encode_rdSDpcr2, encode_rdSDicr2, encode_rdSDmacen, encode_rdSDmacinten]
       try rfl)

theorem encode_writeRow {r : RegRef} {k : Nat} {w : AccessWidth} {v : Word} {i : Instr} (h : writeRow r k w v = some i) :
    ∃ a v', encode i = .op (.write a w v') := by
  unfold writeRow at h
  split at h
  all_goals first
    | (cases h
       done)
    | (simp only [Option.some.injEq] at h
       subst h
       simp only [encode_wrPChcr, encode_wrPMadr, encode_wrPQwc, encode_wrPTadr, encode_wrPAsr0, encode_wrPAsr1,
         encode_wrPSadr, encode_wrSMadr, encode_wrSChcr, encode_wrSTadr, encode_wrSBcrAt0, encode_wrSBcrAt1,
         encode_wrSBcrAt2, encode_wrSBcrAt3, encode_wrPDCtrl, encode_wrPDStat, encode_wrPDPcr, encode_wrSDpcr,
         encode_wrSDicr, encode_wrSDpcr2, encode_wrSDicr2, encode_wrSDmacen, encode_wrSDmacinten,
         LaneWidth.toAccess]
       exact ⟨_, _, rfl⟩)

/-- What a read row does: the register's value through the lane (R190, R222). -/
theorem readRow_regValue {r : RegRef} {k : Nat} {w : AccessWidth} {i : Instr} (h : readRow r k w = some i) (s : State) :
    exec i s = .next (readReg r.engine (bcrRead (regValue s r) k w) s) := by
  unfold readRow at h
  split at h
  all_goals first
    | (cases h
       done)
    | (simp only [Option.some.injEq] at h
       subst h
       simp only [exec_rdPChcr, exec_rdPMadr, exec_rdPQwc, exec_rdPTadr, exec_rdPAsr0, exec_rdPAsr1,
         exec_rdPSadr, exec_rdSMadr, exec_rdSChcr, exec_rdSTadr, exec_rdSBcrAt0, exec_rdSBcrAt1, exec_rdSBcrAt2,
         exec_rdSBcrAt3]
       rfl)
    | (simp only [Option.some.injEq] at h
       subst h
       rfl)

/-- What a write row does. -/
theorem writeRow_reg {r : RegRef} {k : Nat} {w : AccessWidth} {v : Word} {i : Instr} (h : writeRow r k w v = some i)
    (s : State) :
    ∃ s1, exec i s = .next (writeReg r.engine s1 s) := by
  unfold writeRow at h
  split at h
  all_goals first
    | (cases h
       done)
    | (simp only [Option.some.injEq] at h
       subst h
       simp only [exec_wrPChcr, exec_wrPMadr, exec_wrPQwc, exec_wrPTadr, exec_wrPAsr0, exec_wrPAsr1,
         exec_wrPSadr, exec_wrSMadr, exec_wrSChcr, exec_wrSTadr, exec_wrSBcrAt0, exec_wrSBcrAt1, exec_wrSBcrAt2,
         exec_wrSBcrAt3]
       exact ⟨_, rfl⟩)
    | (simp only [Option.some.injEq] at h
       subst h
       exact ⟨_, rfl⟩)

/-! ### The engine of a row -/

theorem win0 (r : RegRef) : windowOf (BitVec.ofNat 32 r.address) = some r.engine := (address_spec r).2.2 0 (by omega)
theorem winK (r : RegRef) (k : Nat) (hk : k < 4) : windowOf (BitVec.ofNat 32 (r.address + k)) = some r.engine :=
    (address_spec r).2.2 k hk
theorem win1 (r : RegRef) : windowOf (BitVec.ofNat 32 (r.address + 1)) = some r.engine := winK r 1 (by omega)
theorem win2 (r : RegRef) : windowOf (BitVec.ofNat 32 (r.address + 2)) = some r.engine := winK r 2 (by omega)
theorem win3 (r : RegRef) : windowOf (BitVec.ofNat 32 (r.address + 3)) = some r.engine := winK r 3 (by omega)

/-- Every instruction by what it does: a register access of an engine, or one of the others. -/
inductive Shape : Instr → Prop where
  | read (i : Instr) (e : Engine) (v : State → Word) (he : instrEngine i = some e)
      (h : ∀ s, exec i s = .next (readReg e (v s) s)) : Shape i
  | writeP (i : Instr) (he : instrEngine i = some .P) (f : State → State)
      (h : ∀ s, exec i s = .next (writeReg .P (f s) s)) : Shape i
  | writeS (i : Instr) (he : instrEngine i = some .S) (f : State → State)
      (h : ∀ s, exec i s = .next (writeReg .S (f s) s)) : Shape i
  | tagP (i : Instr) (he : instrEngine i = some .P) (fam : TagFamily) (c : PChan) (t : Quad) (res :
      State → Option TagResult)
      (h : ∀ s, exec i s = .next (runTagP fam c t (res s) s)) : Shape i
  | tagS (c : SChan) (t : STag) : Shape (.sTag c t)
  | serviceP : Shape .serviceP
  | serviceS : Shape .serviceS
  | setRequestP (c : PChan) (b : Bool) : Shape (.setRequestP c b)
  | setRequestS (c : SChan) (b : Bool) : Shape (.setRequestS c b)
  | resetP : Shape .resetP
  | resetS : Shape .resetS
  | cpcond : Shape .cpcond

theorem eng_of_op {i : Instr} {o : Operation} (h : encode i = .op o) : instrEngine i = operationEngine o := by
  unfold instrEngine; rw [h]

theorem eng_rd {i : Instr} {r : RegRef} {w} (h : encode i = .op (.read (BitVec.ofNat 32 r.address) w)) :
    instrEngine i = some r.engine :=
  (eng_of_op h).trans (win0 r)
theorem eng_wr {i : Instr} {r : RegRef} {w v} (h : encode i = .op (.write (BitVec.ofNat 32 r.address) w v)) :
    instrEngine i = some r.engine :=
  (eng_of_op h).trans (win0 r)

theorem shape (i : Instr) : Shape i := by
  cases instrView i
  case rdPChcr c => exact .read _ .P (fun s => (s.pch c).chcr) (eng_rd (encode_rdPChcr c)) (fun s => exec_rdPChcr c s)
  case rdPMadr c => exact .read _ .P (fun s => (s.pch c).madr) (eng_rd (encode_rdPMadr c)) (fun s => exec_rdPMadr c s)
  case rdPQwc c => exact .read _ .P _ (eng_rd (encode_rdPQwc c)) (fun s => exec_rdPQwc c s)
  case rdPTadr c => exact .read _ .P _ (eng_rd (encode_rdPTadr c)) (fun s => exec_rdPTadr c s)
  case rdPAsr0 c => exact .read _ .P _ (eng_rd (encode_rdPAsr0 c)) (fun s => exec_rdPAsr0 c s)
  case rdPAsr1 c => exact .read _ .P _ (eng_rd (encode_rdPAsr1 c)) (fun s => exec_rdPAsr1 c s)
  case rdPSadr c => exact .read _ .P _ (eng_rd (encode_rdPSadr c)) (fun s => exec_rdPSadr c s)
  case rdPDCtrl => exact .read _ .P _ (eng_rd encode_rdPDCtrl) (fun s => rfl)
  case rdPDStat => exact .read _ .P _ (eng_rd encode_rdPDStat) (fun s => rfl)
  case rdPDPcr => exact .read _ .P _ (eng_rd encode_rdPDPcr) (fun s => rfl)
  case rdSMadr c => exact .read _ .S _ (eng_rd (encode_rdSMadr c)) (fun s => exec_rdSMadr c s)
  case rdSChcr c => exact .read _ .S _ (eng_rd (encode_rdSChcr c)) (fun s => exec_rdSChcr c s)
  case rdSTadr c => exact .read _ .S _ (eng_rd (encode_rdSTadr c)) (fun s => exec_rdSTadr c s)
  case rdSBcrAt0 c w => exact .read _ .S _ (eng_rd (encode_rdSBcrAt0 c w)) (fun s => exec_rdSBcrAt0 c w s)
  case rdSBcrAt1 c => exact .read _ .S _ ((eng_of_op (encode_rdSBcrAt1 c)).trans (win1 _)) (fun s => exec_rdSBcrAt1 c s)
  case rdSBcrAt2 c w => exact .read _ .S _ ((eng_of_op (encode_rdSBcrAt2 c w)).trans (win2 _)) (fun s => exec_rdSBcrAt2 c w s)
  case rdSBcrAt3 c => exact .read _ .S _ ((eng_of_op (encode_rdSBcrAt3 c)).trans (win3 _)) (fun s => exec_rdSBcrAt3 c s)
  case rdSDpcr => exact .read _ .S _ (eng_rd encode_rdSDpcr) (fun s => rfl)
  case rdSDpcr2 => exact .read _ .S _ (eng_rd encode_rdSDpcr2) (fun s => rfl)
  case rdSDicr => exact .read _ .S _ (eng_rd encode_rdSDicr) (fun s => rfl)
  case rdSDicr2 => exact .read _ .S _ (eng_rd encode_rdSDicr2) (fun s => rfl)
  case rdSDmacen => exact .read _ .S _ (eng_rd encode_rdSDmacen) (fun s => rfl)
  case rdSDmacinten => exact .read _ .S _ (eng_rd encode_rdSDmacinten) (fun s => rfl)
  case wrPChcr c v => exact .writeP _ (eng_wr (encode_wrPChcr c v)) _ (fun s => exec_wrPChcr c v s)
  case wrPMadr c v => exact .writeP _ (eng_wr (encode_wrPMadr c v)) _ (fun s => exec_wrPMadr c v s)
  case wrPQwc c v => exact .writeP _ (eng_wr (encode_wrPQwc c v)) _ (fun s => exec_wrPQwc c v s)
  case wrPTadr c v => exact .writeP _ (eng_wr (encode_wrPTadr c v)) _ (fun s => exec_wrPTadr c v s)
  case wrPAsr0 c v => exact .writeP _ (eng_wr (encode_wrPAsr0 c v)) _ (fun s => exec_wrPAsr0 c v s)
  case wrPAsr1 c v => exact .writeP _ (eng_wr (encode_wrPAsr1 c v)) _ (fun s => exec_wrPAsr1 c v s)
  case wrPSadr c v => exact .writeP _ (eng_wr (encode_wrPSadr c v)) _ (fun s => exec_wrPSadr c v s)
  case wrPDCtrl v => exact .writeP _ (eng_wr (encode_wrPDCtrl v)) _ (fun s => rfl)
  case wrPDStat v => exact .writeP _ (eng_wr (encode_wrPDStat v)) _ (fun s => rfl)
  case wrPDPcr v => exact .writeP _ (eng_wr (encode_wrPDPcr v)) _ (fun s => rfl)
  case wrSMadr c v => exact .writeS _ (eng_wr (encode_wrSMadr c v)) _ (fun s => exec_wrSMadr c v s)
  case wrSChcr c v => exact .writeS _ (eng_wr (encode_wrSChcr c v)) _ (fun s => exec_wrSChcr c v s)
  case wrSTadr c v => exact .writeS _ (eng_wr (encode_wrSTadr c v)) _ (fun s => exec_wrSTadr c v s)
  case wrSBcrAt0 c w v => exact .writeS _ (eng_wr (encode_wrSBcrAt0 c w v)) _ (fun s => exec_wrSBcrAt0 c w v s)
  case wrSBcrAt1 c v => exact .writeS _ ((eng_of_op (encode_wrSBcrAt1 c v)).trans (win1 _)) _ (fun s => exec_wrSBcrAt1 c v s)
  case wrSBcrAt2 c w v => exact .writeS _ ((eng_of_op (encode_wrSBcrAt2 c w v)).trans (win2 _)) _ (fun s => exec_wrSBcrAt2 c w v s)
  case wrSBcrAt3 c v => exact .writeS _ ((eng_of_op (encode_wrSBcrAt3 c v)).trans (win3 _)) _ (fun s => exec_wrSBcrAt3 c v s)
  case wrSDpcr v => exact .writeS _ (eng_wr (encode_wrSDpcr v)) _ (fun s => rfl)
  case wrSDpcr2 v => exact .writeS _ (eng_wr (encode_wrSDpcr2 v)) _ (fun s => rfl)
  case wrSDicr v => exact .writeS _ (eng_wr (encode_wrSDicr v)) _ (fun s => rfl)
  case wrSDicr2 v => exact .writeS _ (eng_wr (encode_wrSDicr2 v)) _ (fun s => rfl)
  case wrSDmacen v => exact .writeS _ (eng_wr (encode_wrSDmacen v)) _ (fun s => rfl)
  case wrSDmacinten v => exact .writeS _ (eng_wr (encode_wrSDmacinten v)) _ (fun s => rfl)
  case sTag c t => exact .tagS c t
  case serviceP => exact .serviceP
  case serviceS => exact .serviceS
  case setRequestP c b => exact .setRequestP c b
  case setRequestS c b => exact .setRequestS c b
  case resetP => exact .resetP
  case resetS => exact .resetS
  case cpcond => exact .cpcond
  all_goals exact .tagP _ rfl _ _ _ _ (fun s => rfl)

/-! ### Bits of the composed registers -/

theorem dStat_bits (a b : BitVec 10) (i : Nat) : (dStatValue a b).getLsbD i =
    (a.getLsbD i || (decide (16 ≤ i) && b.getLsbD (i - 16))) := by
  simp only [dStatValue, BitVec.getLsbD_or, BitVec.getLsbD_setWidth, BitVec.getLsbD_shiftLeft]
  by_cases h : i < 32
  · by_cases h2 : i < 16
    · simp [h, h2, show ¬ 16 ≤ i by omega]
    · simp [h, h2, show 16 ≤ i by omega, show i - 16 < 32 by omega]
  · have e1 : a.getLsbD i = false := BitVec.getLsbD_of_ge _ _ (by omega)
    have e2 : b.getLsbD (i - 16) = false := BitVec.getLsbD_of_ge _ _ (by omega)
    simp [e1, e2]

theorem dicr_bits (e : EngineS) (i : Nat) : (dicrValue e).getLsbD i = ((decide (i =
    15) && e.be) || (decide (16 ≤ i) && e.im1.getLsbD (i - 16)) || (decide (i =
    23) && e.mie) || (decide (24 ≤ i) && e.ip1.getLsbD (i - 24)) || (decide (i = 31) && e.mif)) := by
  simp only [dicrValue, flagAt, BitVec.getLsbD_or, BitVec.getLsbD_setWidth, BitVec.getLsbD_shiftLeft,
      BitVec.getLsbD_ofBool]
  by_cases h : i < 32
  · interval_cases i <;> simp
  · have e1 : e.im1.getLsbD (i - 16) = false := BitVec.getLsbD_of_ge _ _ (by omega)
    have e2 : e.ip1.getLsbD (i - 24) = false := BitVec.getLsbD_of_ge _ _ (by omega)
    have a1 : ¬ i = 15 := by omega
    have a2 : ¬ i = 23 := by omega
    have a3 : ¬ i = 31 := by omega
    simp [e1, e2, a1, a2, a3, h]
theorem dicr2_bits (e : EngineS) (i : Nat) : (dicr2Value e).getLsbD i =
    (e.tip.getLsbD i || (decide (16 ≤ i) && e.im2.getLsbD (i - 16)) || (decide (24 ≤ i) && e.ip2.getLsbD (i - 24))) := by
  simp only [dicr2Value, BitVec.getLsbD_or, BitVec.getLsbD_setWidth, BitVec.getLsbD_shiftLeft]
  by_cases h : i < 32
  · interval_cases i <;> simp
  · have e1 : e.im2.getLsbD (i - 16) = false := BitVec.getLsbD_of_ge _ _ (by omega)
    have e2 : e.ip2.getLsbD (i - 24) = false := BitVec.getLsbD_of_ge _ _ (by omega)
    have e3 : e.tip.getLsbD i = false := BitVec.getLsbD_of_ge _ _ (by omega)
    simp [e1, e2, e3]

theorem mask_lane8 (old v : Word) (k i : Nat) (hi : i < 32) :
    (bcrWrite old k .w8 v).getLsbD i = if 8 * k ≤ i ∧
        i < 8 * k + 8 then v.getLsbD (i - 8 * k) else old.getLsbD i := by
  simp only [bcrWrite]
  have m : ∀ j, (0xFF : Word).getLsbD j = decide (j < 8) := by
    intro j
    by_cases hj : j < 32
    · interval_cases j <;> rfl
    · rw [BitVec.getLsbD_of_ge _ _ (by omega)]; symm; simp; omega
  simp only [BitVec.getLsbD_or, BitVec.getLsbD_and, BitVec.getLsbD_not, BitVec.getLsbD_shiftLeft, m]
  by_cases h1 : 8 * k ≤ i <;> by_cases h2 : i < 8 * k + 8
  · simp [hi, h1, h2, show ¬ i < 8 * k by omega, show i - 8 * k < 8 by omega]
  · simp [hi, h1, h2, show ¬ i < 8 * k by omega, show ¬ i - 8 * k < 8 by omega]
  · simp [hi, h1, h2, show i < 8 * k by omega]
  · omega
theorem mask_lane16 (old v : Word) (k i : Nat) (hi : i < 32) :
    (bcrWrite old k .w16 v).getLsbD i = if 8 * k ≤ i ∧
        i < 8 * k + 16 then v.getLsbD (i - 8 * k) else old.getLsbD i := by
  simp only [bcrWrite]
  have m : ∀ j, (0xFFFF : Word).getLsbD j = decide (j < 16) := by
    intro j
    by_cases hj : j < 32
    · interval_cases j <;> rfl
    · rw [BitVec.getLsbD_of_ge _ _ (by omega)]; symm; simp; omega
  simp only [BitVec.getLsbD_or, BitVec.getLsbD_and, BitVec.getLsbD_not, BitVec.getLsbD_shiftLeft, m]
  by_cases h1 : 8 * k ≤ i <;> by_cases h2 : i < 8 * k + 16
  · simp [hi, h1, h2, show ¬ i < 8 * k by omega, show i - 8 * k < 16 by omega]
  · simp [hi, h1, h2, show ¬ i < 8 * k by omega, show ¬ i - 8 * k < 16 by omega]
  · simp [hi, h1, h2, show i < 8 * k by omega]
  · omega

/-! ### Fields of a packed tag -/

theorem tagCache_pack (id : BitVec 3) (t : PTag) : tagCache (packPTag id t) = tagHeader t id := by
  apply BitVec.eq_of_getLsbD_eq; intro i hi
  simp only [tagCache, packPTag, tagHeader, BitVec.getLsbD_extractLsb', BitVec.getLsbD_append]
  have h1 : ¬ (16 + i < 16) := by omega
  by_cases h2 : i < 10
  · simp [h2, show ¬ 16 + i < 16 by omega, show 16 + i - 16 = i by omega, hi]
  by_cases h3 : i - 10 < 2
  · simp [h2, h3, show 16 + i - 16 = i by omega, hi]
  by_cases h4 : i - 10 - 2 < 3
  · simp [h2, h3, h4, show 16 + i - 16 = i by omega, hi]
  · have : i = 15 := by omega
    subst this; simp

theorem payload_pack (id : BitVec 3) (t : PTag) : (packPTag id t).extractLsb' 64 64 = t.payload := by
  have := congrArg PTag.payload (unpack_pack id t)
  exact this

theorem tagLow_pack (id : BitVec 3) (t : PTag) : (packPTag id t).extractLsb' 0 64 = tagLow t id := by
  apply BitVec.eq_of_getLsbD_eq; intro i hi
  simp only [packPTag, tagLow, tagHeader, BitVec.getLsbD_extractLsb', BitVec.getLsbD_append]
  by_cases h1 : i < 16
  · simp [h1, hi]
  by_cases h2 : i - 16 < 10
  · simp [h1, h2, show i - 16 < 16 by omega, hi]
  by_cases h3 : i - 16 - 10 < 2
  · simp [h1, h2, h3, show i - 16 < 16 by omega, hi]
  by_cases h4 : i - 16 - 10 - 2 < 3
  · simp [h1, h2, h3, h4, show i - 16 < 16 by omega, hi]
  by_cases h5 : i - 16 - 10 - 2 - 3 < 1
  · have : i = 31 := by omega
    subst this; simp
  · simp [h1, h2, h3, h4, h5, show ¬ i - 16 < 16 by omega, hi, show i - 16 - 10 - 2 - 3 - 1 = i - 16 - 16 by omega,
      show i - 16 - 16 < 32 by omega]

end Sys2Proof
end

