-- ==== Sys2Proof/Laws/Memory.lean ====
section
/-! SUPPORT. The laws of memory: every write keeps the canonical form and the address space, a read after a write gives
the value written, and a write leaves every other address alone. -/

namespace Sys2Proof.Machine

/-! ### The canonical form -/

/-- The canonical form of a nonempty memory. -/
theorem Memory.wf_cons (x : Host.Cell) (m : Memory) :
    Memory.wf (x :: m) = true ↔ x.2 ≠ Memory.unlisted ∧ (∀ y ∈ m, x.1 < y.1) ∧ Memory.wf m = true := by
  induction m generalizing x with
  | nil => simp [Memory.wf]
  | cons y m ih =>
    have hw : Memory.wf (x :: y :: m) = (x.2 != Memory.unlisted && decide (x.1 < y.1) && Memory.wf (y :: m)) := rfl
    rw [hw]
    simp only [Bool.and_eq_true, bne_iff_ne, decide_eq_true_eq, List.mem_cons, forall_eq_or_imp]
    constructor
    · rintro ⟨⟨h1, h2⟩, h3⟩
      exact ⟨h1, ⟨h2, fun z hz => lt_trans h2 (((ih y).mp h3).2.1 z hz)⟩, h3⟩
    · rintro ⟨h1, ⟨h2, _⟩, h3⟩
      exact ⟨⟨h1, h2⟩, h3⟩

/-- An address below every listed one is not listed. -/
theorem Memory.readByte_of_lt {m : Memory} {a : Nat} (h : ∀ y ∈ m, a < y.1) : m.readByte a = Memory.unlisted := by
  induction m with
  | nil => rfl
  | cons x m ih =>
    have hx := h x (by simp)
    simp only [Memory.readByte]
    rw [if_neg (by omega), ih (fun y hy => h y (by simp [hy]))]

/-- The addresses listed after a byte is written. -/
theorem Memory.mem_writeByte {m : Memory} {a : Nat} {v : Byte} {y : Host.Cell} (h : y ∈ m.writeByte a v) :
    y ∈ m ∨ y.1 = a := by
  induction m with
  | nil =>
    simp only [Memory.writeByte] at h
    split at h
    · simp at h
    · simp at h; simp [h]
  | cons x m ih =>
    simp only [Memory.writeByte] at h
    split at h
    · split at h
      · exact .inl h
      · rcases List.mem_cons.mp h with h | h
        · simp [h]
        · exact .inl h
    · split at h
      · split at h
        · exact .inl (List.mem_cons_of_mem _ h)
        · rcases List.mem_cons.mp h with h | h
          · simp [h]
          · exact .inl (List.mem_cons_of_mem _ h)
      · rcases List.mem_cons.mp h with h | h
        · simp [h]
        · rcases ih h with h | h
          · exact .inl (List.mem_cons_of_mem _ h)
          · exact .inr h

/-- Writing a byte keeps the canonical form. -/
theorem Memory.writeByte_wf {m : Memory} (hm : m.wf = true) (a : Nat) (v : Byte) : (m.writeByte a v).wf = true := by
  induction m with
  | nil =>
    simp only [Memory.writeByte]
    split
    · rfl
    · simpa [Memory.wf] using ‹_›
  | cons x m ih =>
    obtain ⟨h1, h2, h3⟩ := (Memory.wf_cons x m).mp hm
    simp only [Memory.writeByte]
    split
    · split
      · exact hm
      · rename_i hlt hv
        refine (Memory.wf_cons _ _).mpr ⟨hv, ?_, hm⟩
        intro y hy
        rcases List.mem_cons.mp hy with rfl | hy
        · exact hlt
        · exact lt_trans hlt (h2 y hy)
    · split
      · rename_i heq
        split
        · exact h3
        · rename_i hv
          exact (Memory.wf_cons _ _).mpr ⟨hv, fun y hy => by simpa [heq] using h2 y hy, h3⟩
      · refine (Memory.wf_cons _ _).mpr ⟨h1, ?_, ih h3⟩
        intro y hy
        rcases Memory.mem_writeByte hy with hy | hy
        · exact h2 y hy
        · omega

/-- Writing a byte inside the address space keeps every entry inside it. -/
theorem Memory.writeByte_below {m : Memory} {n a : Nat} (hm : m.below n = true) (ha : a < n) (v : Byte) :
    (m.writeByte a v).below n = true := by
  simp only [Memory.below, List.all_eq_true, decide_eq_true_eq] at *
  intro y hy
  rcases Memory.mem_writeByte hy with hy | hy
  · exact hm y hy
  · omega

/-- The one law of a byte write: the byte written reads back, every other byte is as it was. -/
theorem Memory.readByte_writeByte {m : Memory} (hm : m.wf = true) (a b : Nat) (v : Byte) :
    (m.writeByte a v).readByte b = if b = a then v else m.readByte b := by
  induction m with
  | nil =>
    simp only [Memory.writeByte]
    split
    · rename_i h; simp [Memory.readByte, h]
    · simp only [Memory.readByte, eq_comm]
  | cons x m ih =>
    obtain ⟨h1, h2, h3⟩ := (Memory.wf_cons x m).mp hm
    simp only [Memory.writeByte]
    split
    · rename_i hlt
      have hun : Memory.readByte (x :: m) a = Memory.unlisted := by
        apply Memory.readByte_of_lt
        intro y hy
        rcases List.mem_cons.mp hy with rfl | hy
        · exact hlt
        · exact lt_trans hlt (h2 y hy)
      split
      · rename_i hv
        split
        · rename_i hb; rw [hb, hun, hv]
        · rfl
      · simp only [Memory.readByte, eq_comm (a := a)]
    · split
      · rename_i _ heq
        split
        · rename_i hv
          split
          · rename_i hb
            rw [hb, hv]
            exact Memory.readByte_of_lt (fun y hy => by simpa [heq] using h2 y hy)
          · rename_i hb
            simp only [Memory.readByte]
            rw [if_neg (by omega)]
        · simp only [Memory.readByte, eq_comm (a := a)]
          split
          · rfl
          · rename_i hb; rw [if_neg (by omega)]
      · rename_i hlt hne
        simp only [Memory.readByte, ih h3]
        by_cases hx : x.1 = b
        · have hb : b ≠ a := by omega
          simp [hx, hb]
        · simp [hx]

/-! ### Words and quadwords -/

theorem Memory.writeWord_wf {m : Memory} (hm : m.wf = true) (a : Nat) (v : Word) : (m.writeWord a v).wf = true :=
  Memory.writeByte_wf (Memory.writeByte_wf (Memory.writeByte_wf (Memory.writeByte_wf hm _ _) _ _) _ _) _ _

theorem Memory.writeQuad_wf {m : Memory} (hm : m.wf = true) (a : Nat) (v : Quad) : (m.writeQuad a v).wf = true :=
  Memory.writeWord_wf (Memory.writeWord_wf (Memory.writeWord_wf (Memory.writeWord_wf hm _ _) _ _) _ _) _ _

theorem Memory.writeWord_below {m : Memory} {n a : Nat} (hm : m.below n = true) (ha : a + 4 ≤ n) (v : Word) :
    (m.writeWord a v).below n = true :=
  Memory.writeByte_below (Memory.writeByte_below (Memory.writeByte_below (Memory.writeByte_below hm (by omega) _)
    (by omega) _) (by omega) _) (by omega) _

theorem Memory.writeQuad_below {m : Memory} {n a : Nat} (hm : m.below n = true) (ha : a + 16 ≤ n) (v : Quad) :
    (m.writeQuad a v).below n = true :=
  Memory.writeWord_below (Memory.writeWord_below (Memory.writeWord_below (Memory.writeWord_below hm (by omega) _)
    (by omega) _) (by omega) _) (by omega) _

/-- A word write leaves every byte outside its four alone. -/
theorem Memory.readByte_writeWord_other {m : Memory} (hm : m.wf = true) {a b : Nat} (v : Word)
    (h : b < a ∨ a + 4 ≤ b) : (m.writeWord a v).readByte b = m.readByte b := by
  have h1 := Memory.writeByte_wf hm a (v.extractLsb' 0 8)
  have h2 := Memory.writeByte_wf h1 (a + 1) (v.extractLsb' 8 8)
  have h3 := Memory.writeByte_wf h2 (a + 2) (v.extractLsb' 16 8)
  rw [Memory.writeWord, Memory.readByte_writeByte h3, if_neg (by omega), Memory.readByte_writeByte h2,
    if_neg (by omega), Memory.readByte_writeByte h1, if_neg (by omega), Memory.readByte_writeByte hm, if_neg (by omega)]

/-- A quadword write leaves every byte outside its sixteen alone. -/
theorem Memory.readByte_writeQuad_other {m : Memory} (hm : m.wf = true) {a b : Nat} (v : Quad)
    (h : b < a ∨ a + 16 ≤ b) : (m.writeQuad a v).readByte b = m.readByte b := by
  have h1 := Memory.writeWord_wf hm a (v.extractLsb' 0 32)
  have h2 := Memory.writeWord_wf h1 (a + 4) (v.extractLsb' 32 32)
  have h3 := Memory.writeWord_wf h2 (a + 8) (v.extractLsb' 64 32)
  rw [Memory.writeQuad, Memory.readByte_writeWord_other h3 _ (by omega), Memory.readByte_writeWord_other h2 _ (by omega),
    Memory.readByte_writeWord_other h1 _ (by omega), Memory.readByte_writeWord_other hm _ (by omega)]

/-- Four bytes of a word, put together again. -/
theorem word_of_bytes (v : Word) :
    v.extractLsb' 24 8 ++ v.extractLsb' 16 8 ++ v.extractLsb' 8 8 ++ v.extractLsb' 0 8 = v := by
  apply BitVec.eq_of_getLsbD_eq
  intro i hi
  simp only [BitVec.getLsbD_append, BitVec.getLsbD_extractLsb']
  interval_cases i <;> simp

/-- Four words of a quadword, put together again. -/
theorem quad_of_words (v : Quad) :
    v.extractLsb' 96 32 ++ v.extractLsb' 64 32 ++ v.extractLsb' 32 32 ++ v.extractLsb' 0 32 = v := by
  apply BitVec.eq_of_getLsbD_eq
  intro i hi
  simp only [BitVec.getLsbD_append, BitVec.getLsbD_extractLsb']
  by_cases h1 : i < 32
  · simp [h1]
  · by_cases h2 : i < 64
    · simp [h1, show i - 32 < 32 by omega, show 32 + (i - 32) = i by omega]
    · by_cases h3 : i < 96
      · simp [h1, show ¬ i - 32 < 32 by omega, show i - 32 - 32 < 32 by omega, show 64 + (i - 32 - 32) = i by omega]
      · simp [h1, show ¬ i - 32 < 32 by omega, show ¬ i - 32 - 32 < 32 by omega,
          show i - 32 - 32 - 32 < 32 by omega, show 96 + (i - 32 - 32 - 32) = i by omega]

/-- A word reads back as written. -/
theorem Memory.readWord_writeWord {m : Memory} (hm : m.wf = true) (a : Nat) (v : Word) :
    (m.writeWord a v).readWord a = v := by
  have h1 := Memory.writeByte_wf hm a (v.extractLsb' 0 8)
  have h2 := Memory.writeByte_wf h1 (a + 1) (v.extractLsb' 8 8)
  have h3 := Memory.writeByte_wf h2 (a + 2) (v.extractLsb' 16 8)
  simp only [Memory.writeWord, Memory.readWord, Memory.readByte_writeByte h3, Memory.readByte_writeByte h2,
    Memory.readByte_writeByte h1, Memory.readByte_writeByte hm]
  simp
  exact word_of_bytes v

/-- A word write leaves a word that does not overlap it alone. -/
theorem Memory.readWord_writeWord_other {m : Memory} (hm : m.wf = true) {a b : Nat} (v : Word)
    (h : b + 4 ≤ a ∨ a + 4 ≤ b) : (m.writeWord a v).readWord b = m.readWord b := by
  simp only [Memory.readWord]
  rw [Memory.readByte_writeWord_other hm v (by omega), Memory.readByte_writeWord_other hm v (by omega),
    Memory.readByte_writeWord_other hm v (by omega), Memory.readByte_writeWord_other hm v (by omega)]

/-- A quadword reads back as written. -/
theorem Memory.readQuad_writeQuad {m : Memory} (hm : m.wf = true) (a : Nat) (v : Quad) :
    (m.writeQuad a v).readQuad a = v := by
  have h1 := Memory.writeWord_wf hm a (v.extractLsb' 0 32)
  have h2 := Memory.writeWord_wf h1 (a + 4) (v.extractLsb' 32 32)
  have h3 := Memory.writeWord_wf h2 (a + 8) (v.extractLsb' 64 32)
  simp only [Memory.writeQuad, Memory.readQuad]
  rw [Memory.readWord_writeWord h3, Memory.readWord_writeWord_other h3 _ (by omega), Memory.readWord_writeWord h2,
    Memory.readWord_writeWord_other h3 _ (by omega), Memory.readWord_writeWord_other h2 _ (by omega),
    Memory.readWord_writeWord h1, Memory.readWord_writeWord_other h3 _ (by omega),
    Memory.readWord_writeWord_other h2 _ (by omega), Memory.readWord_writeWord_other h1 _ (by omega),
    Memory.readWord_writeWord hm]
  exact quad_of_words v

/-- A quadword write leaves a quadword that does not overlap it alone. -/
theorem Memory.readQuad_writeQuad_other {m : Memory} (hm : m.wf = true) {a b : Nat} (v : Quad)
    (h : b + 16 ≤ a ∨ a + 16 ≤ b) : (m.writeQuad a v).readQuad b = m.readQuad b := by
  simp only [Memory.readQuad, Memory.readWord]
  simp only [Nat.add_assoc]
  rw [Memory.readByte_writeQuad_other hm v (by omega), Memory.readByte_writeQuad_other hm v (by omega),
    Memory.readByte_writeQuad_other hm v (by omega), Memory.readByte_writeQuad_other hm v (by omega),
    Memory.readByte_writeQuad_other hm v (by omega), Memory.readByte_writeQuad_other hm v (by omega),
    Memory.readByte_writeQuad_other hm v (by omega), Memory.readByte_writeQuad_other hm v (by omega),
    Memory.readByte_writeQuad_other hm v (by omega), Memory.readByte_writeQuad_other hm v (by omega),
    Memory.readByte_writeQuad_other hm v (by omega), Memory.readByte_writeQuad_other hm v (by omega),
    Memory.readByte_writeQuad_other hm v (by omega), Memory.readByte_writeQuad_other hm v (by omega),
    Memory.readByte_writeQuad_other hm v (by omega), Memory.readByte_writeQuad_other hm v (by omega)]

/-! ### The bytes of a unit (R105) -/

/-- Byte i of a word is the byte i addresses on (R105). -/
theorem Memory.byte_readWord (m : Memory) (a : Nat) {i : Nat} (hi : i < 4) :
    (m.readWord a).extractLsb' (8 * i) 8 = m.readByte (a + i) := by
  apply BitVec.eq_of_getLsbD_eq
  intro j hj
  simp only [Memory.readWord, BitVec.getLsbD_extractLsb', BitVec.getLsbD_append, hj, decide_true, Bool.true_and]
  interval_cases i <;> split_ifs <;> first | omega | (congr 1; omega)

/-- Word k of a quadword is the word 4k addresses on (R105). -/
theorem Memory.word_readQuad (m : Memory) (a : Nat) {k : Nat} (hk : k < 4) :
    (m.readQuad a).extractLsb' (32 * k) 32 = m.readWord (a + 4 * k) := by
  apply BitVec.eq_of_getLsbD_eq
  intro j hj
  simp only [Memory.readQuad, BitVec.getLsbD_extractLsb', BitVec.getLsbD_append, hj, decide_true, Bool.true_and]
  interval_cases k <;> split_ifs <;> first | omega | (congr 1; omega)

/-- Byte i of a quadword is the byte i addresses on (R105). -/
theorem Memory.byte_readQuad (m : Memory) (a : Nat) {i : Nat} (hi : i < 16) :
    (m.readQuad a).extractLsb' (8 * i) 8 = m.readByte (a + i) := by
  have hw := Memory.byte_readWord m (a + 4 * (i / 4)) (Nat.mod_lt i (by omega : 4 > 0))
  rw [← Memory.word_readQuad m a (by omega), show a + 4 * (i / 4) + i % 4 = a + i by omega] at hw
  rw [← hw]
  apply BitVec.eq_of_getLsbD_eq
  intro j hj
  have h1 : 8 * (i % 4) + j < 32 := by omega
  have h2 : 32 * (i / 4) + (8 * (i % 4) + j) = 8 * i + j := by omega
  simp only [BitVec.getLsbD_extractLsb', hj, h1, h2, decide_true, Bool.true_and]

/-- A written word stands byte by byte, least significant first (R105). -/
theorem Memory.readByte_writeWord {m : Memory} (hm : m.wf = true) (a : Nat) (v : Word) {i : Nat} (hi : i < 4) :
    (m.writeWord a v).readByte (a + i) = v.extractLsb' (8 * i) 8 := by
  rw [← Memory.byte_readWord _ a hi, Memory.readWord_writeWord hm]

/-- A written quadword stands byte by byte, least significant first (R105). -/
theorem Memory.readByte_writeQuad {m : Memory} (hm : m.wf = true) (a : Nat) (v : Quad) {i : Nat} (hi : i < 16) :
    (m.writeQuad a v).readByte (a + i) = v.extractLsb' (8 * i) 8 := by
  rw [← Memory.byte_readQuad _ a hi, Memory.readQuad_writeQuad hm]

/-! ### The addresses at the ports (R104) -/

/-- Engine P's bus address is a multiple of 16 with all sixteen bytes in its space. -/
theorem busAddrP_bound (a : Word) : (busAddrP a).toNat % 16 = 0 ∧ (busAddrP a).toNat + 16 ≤ 2 ^ 32 := by
  have h : (busAddrP a).toNat = a.toNat / 16 * 16 := by
    have hb : busAddrP a = (a >>> 4) <<< 4 := by
      apply BitVec.eq_of_getLsbD_eq
      intro i hi
      simp only [busAddrP, BitVec.getLsbD_and, BitVec.getLsbD_shiftLeft, BitVec.getLsbD_ushiftRight]
      interval_cases i <;> simp
    rw [hb]
    simp only [BitVec.toNat_shiftLeft, BitVec.toNat_ushiftRight, Nat.shiftLeft_eq, Nat.shiftRight_eq_div_pow]
    have := a.isLt
    omega
  have := a.isLt
  omega

/-- Engine S's bus address is a multiple of 4 with all four bytes in its space. -/
theorem busAddrS_bound (a : AddrS) : (busAddrS a).toNat % 4 = 0 ∧ (busAddrS a).toNat + 4 ≤ 2 ^ 24 := by
  have h : (busAddrS a).toNat = a.toNat / 4 * 4 := by
    have hb : busAddrS a = ((a >>> 2) <<< 2).setWidth 32 := by
      unfold busAddrS
      congr 1
      apply BitVec.eq_of_getLsbD_eq
      intro i hi
      simp only [BitVec.getLsbD_and, BitVec.getLsbD_shiftLeft, BitVec.getLsbD_ushiftRight]
      interval_cases i <;> simp
    rw [hb]
    simp only [BitVec.toNat_setWidth, BitVec.toNat_shiftLeft, BitVec.toNat_ushiftRight, Nat.shiftLeft_eq,
      Nat.shiftRight_eq_div_pow]
    have := a.isLt
    omega
  have := a.isLt
  omega

/-- The scratchpad offset is a multiple of 16 with all sixteen bytes in the scratchpad. -/
theorem sprOffset_bound (a : SprAddr) : (sprOffset a).toNat % 16 = 0 ∧ (sprOffset a).toNat + 16 ≤ 2 ^ 14 := by
  have h : (sprOffset a).toNat = a.toNat / 16 * 16 := by
    have hb : sprOffset a = (a >>> 4) <<< 4 := by
      apply BitVec.eq_of_getLsbD_eq
      intro i hi
      simp only [sprOffset, BitVec.getLsbD_and, BitVec.getLsbD_shiftLeft, BitVec.getLsbD_ushiftRight]
      interval_cases i <;> simp
    rw [hb]
    simp only [BitVec.toNat_shiftLeft, BitVec.toNat_ushiftRight, Nat.shiftLeft_eq, Nat.shiftRight_eq_div_pow]
    have := a.isLt
    omega
  have := a.isLt
  omega

end Sys2Proof.Machine
end

