-- ==== Sys2Proof/Laws/EngineP.lean ====
section
/-! SUPPORT. What the sub-steps of engine P do, each said once: the calls they make (`CallsP`), how they end (`EndsP` of
Safety.lean), and which channel a service takes. -/

namespace Sys2Proof.Machine

/-- What a sub-step of channel c has done so far: the channel is x, `calls` were made, and nothing else of the core is
changed. -/
structure CallsP (c : PChan) (x : PChannel) (calls : List Event) (s t : State) : Prop where
  channel : t.pch c = x
  others : ∀ d, d ≠ c → t.pch d = s.pch d
  dCtrl : t.engP.dCtrl = s.engP.dCtrl
  cis : t.engP.cis = s.engP.cis
  cim : t.engP.cim = s.engP.cim
  dPcr : t.engP.dPcr = s.engP.dPcr
  master : t.engP.master = s.engP.master
  fault : t.engP.fault = s.engP.fault
  log : t.log = s.log ++ calls
  engS : t.engS = s.engS
  cfg : t.cfg = s.cfg
  memS : t.memS = s.memS
  peersP : ∀ d, d ≠ c → t.peersP[d] = s.peersP[d]
  peersS : t.peersS = s.peersS
  pending : t.pending = s.pending

theorem CallsP.refl (c : PChan) (s : State) : CallsP c (s.pch c) [] s s := by
  constructor <;> simp

variable {c : PChan} {x : PChannel} {calls : List Event} {s t : State}

theorem CallsP.setPch (h : CallsP c x calls s t) (y : PChannel) : CallsP c y calls s (t.setPch c y) where
  channel := State.pch_setPch_self t c y
  others d hd := (State.pch_setPch_ne t y hd).trans (h.others d hd)
  dCtrl := h.dCtrl
  cis := h.cis
  cim := h.cim
  dPcr := h.dPcr
  master := h.master
  fault := h.fault
  log := h.log
  engS := h.engS
  cfg := h.cfg
  memS := h.memS
  peersP := h.peersP
  peersS := h.peersS
  pending := h.pending

theorem CallsP.record (h : CallsP c x calls s t) (e : Event) : CallsP c x (calls ++ [e]) s (t.record e) where
  channel := h.channel
  others := h.others
  dCtrl := h.dCtrl
  cis := h.cis
  cim := h.cim
  dPcr := h.dPcr
  master := h.master
  fault := h.fault
  log := by simp [h.log]
  engS := h.engS
  cfg := h.cfg
  memS := h.memS
  peersP := h.peersP
  peersS := h.peersS
  pending := h.pending

theorem CallsP.setMemP (h : CallsP c x calls s t) (m : Memory) : CallsP c x calls s (t.setMemP m) :=
  ⟨h.1, h.2, h.3, h.4, h.5, h.6, h.7, h.8, h.9, h.10, h.11, h.12, h.13, h.14, h.15⟩

theorem CallsP.setSpr (h : CallsP c x calls s t) (m : Memory) : CallsP c x calls s (t.setSpr m) :=
  ⟨h.1, h.2, h.3, h.4, h.5, h.6, h.7, h.8, h.9, h.10, h.11, h.12, h.13, h.14, h.15⟩

/-- A peer call: the peer may set its channel's request flag. -/
theorem CallsP.afterCall (h : CallsP c x calls s t) (e : Event) :
    CallsP c { x with drq := (answerP t c).request.getD x.drq } (calls ++ [e]) s (afterCallP c e t) := by
  rw [afterCallP_eq]
  exact {
    channel := by
      show (t.setPch c _).pch c = _
      rw [State.pch_setPch_self, h.channel]
    others := fun d hd => by
      show (t.setPch c _).pch d = _
      rw [State.pch_setPch_ne _ _ hd, h.others d hd]
    dCtrl := h.dCtrl
    cis := h.cis
    cim := h.cim
    dPcr := h.dPcr
    master := h.master
    fault := h.fault
    log := by simp [h.log]
    engS := h.engS
    cfg := h.cfg
    memS := h.memS
    peersP := fun d hd => (peersP_dropAnswerP_ne t hd).trans (h.peersP d hd)
    peersS := h.peersS
    pending := h.pending }

theorem memP_afterCallP (c : PChan) (e : Event) (s : State) : (afterCallP c e s).memP = s.memP := by
  rw [afterCallP_eq]

theorem spr_afterCallP (c : PChan) (e : Event) (s : State) : (afterCallP c e s).spr = s.spr := by
  rw [afterCallP_eq]

/-! ### The end of a sub-step -/

theorem withBit_getLsbD {n : Nat} (v : BitVec n) (k i : Nat) (hk : k < n) :
    (withBit v k).getLsbD i = (v.getLsbD i || i == k) := by
  unfold withBit
  by_cases h : i = k
  · subst h; simp [hk]
  · have : (1#n <<< k).getLsbD i = false := by
      simp only [BitVec.getLsbD_shiftLeft, BitVec.getLsbD_one]
      by_cases hi : i < k
      · simp [hi]
      · have : i - k ≠ 0 := by omega
        simp [this]
    simp [this, h]

/-- A sub-step that completes nothing. -/
theorem CallsP.rest (h : CallsP c x calls s t) : EndsP c x false calls s (t.respond (.progress c.val)) where
  channel := by simpa using h.channel
  others := h.others
  cis i := by simp [h.cis]
  cim := h.cim
  dCtrl := h.dCtrl
  dPcr := h.dPcr
  fault := h.fault
  master := by simpa using h.master
  log := by simp [h.log, h.master]
  response := rfl
  engS := h.engS
  cfg := h.cfg
  memS := h.memS
  peersP := h.peersP
  peersS := h.peersS
  pending := h.pending

/-- CompleteP, said once (R304). -/
theorem CallsP.complete (h : CallsP c x calls s t) :
    EndsP c x true calls s ((completeP c t).respond (.progress c.val)) := by
  unfold completeP
  rw [reevalP_eq]
  refine {
    channel := ?_
    others := ?_
    cis := ?_
    cim := h.cim
    dCtrl := h.dCtrl
    dPcr := h.dPcr
    fault := h.fault
    master := rfl
    log := ?_
    response := rfl
    engS := h.engS
    cfg := h.cfg
    memS := h.memS
    peersP := h.peersP
    peersS := h.peersS
    pending := h.pending }
  · show (t.setPch c _).pch c = _
    rw [State.pch_setPch_self, h.channel]
    simp [pClearStr]
  · intro d hd
    show (t.setPch c _).pch d = _
    rw [State.pch_setPch_ne _ _ hd, h.others d hd]
  · intro i
    show (withBit t.engP.cis c.val).getLsbD i = _
    rw [withBit_getLsbD _ _ _ c.isLt, h.cis]
    simp
  · show t.log ++ _ = _
    rw [h.log]
    simp only [State.engP_respond, State.master_setPch, State.engP_setEngP, h.master]

theorem memP_reevalP (s : State) : (reevalP s).memP = s.memP := by rw [reevalP_eq]

theorem spr_reevalP (s : State) : (reevalP s).spr = s.spr := by rw [reevalP_eq]

theorem memP_completeP (c : PChan) (s : State) : (completeP c s).memP = s.memP := memP_reevalP _

theorem spr_completeP (c : PChan) (s : State) : (completeP c s).spr = s.spr := spr_reevalP _

/-- A condition on a completion: whatever `fin` is, the channel ends as `EndsP` says. -/
theorem EndsP.congr {y : PChannel} {fin fin' : Bool} (h : EndsP c x fin calls s t) (hf : fin = fin')
    (hx : fin = true → { x with hasTag := false, chainEnded := false } =
      { y with hasTag := false, chainEnded := false }) (hx' : fin = false → x = y) : EndsP c y fin' calls s t := by
  subst hf
  cases fin with
  | false => rw [← hx' rfl]; exact h
  | true =>
    have hy := hx rfl
    have : { x with chcr := x.chcr &&& 0xFFFFFEFF, hasTag := false, chainEnded := false } =
        ({ y with chcr := y.chcr &&& 0xFFFFFEFF, hasTag := false, chainEnded := false } : PChannel) := by
      simp only [PChannel.mk.injEq] at hy ⊢
      simp [hy]
    exact { h with channel := by rw [h.channel]; simpa using this }

theorem pMode_normal (v : Word) : pMode v = .normal ↔ v.extractLsb' 2 2 = 0#2 := by
  unfold pMode
  generalize v.extractLsb' 2 2 = m
  revert m; decide

theorem pMode_chain (v : Word) : pMode v = .chain ↔ v.extractLsb' 2 2 = 1#2 := by
  unfold pMode
  generalize v.extractLsb' 2 2 = m
  revert m; decide

theorem pMode_interleave (v : Word) : pMode v = .interleave ↔ v.extractLsb' 2 2 = 2#2 := by
  unfold pMode
  generalize v.extractLsb' 2 2 = m
  revert m; decide

theorem pMode_reserved (v : Word) : pMode v = .reserved ↔ v.extractLsb' 2 2 = 3#2 := by
  unfold pMode
  generalize v.extractLsb' 2 2 = m
  revert m; decide

/-- EndOfUnitP, said once (R300, R304). -/
theorem CallsP.endOfUnit (h : CallsP c x calls s t) :
    EndsP c x.unitMoved x.unitCompletes calls s ((endOfUnitP c t).respond (.progress c.val)) := by
  unfold endOfUnitP
  simp only [h.channel, pMode_normal, Bool.or_eq_true, decide_eq_true_eq]
  have hq : (x.qwc - 1 = 0) ↔ x.qwc = 1#16 := by
    constructor
    · intro e; have := congrArg (· + 1) e; simpa using this
    · intro e; simp [e]
  by_cases h1 : x.qwc = 1#16
  · rw [if_pos (hq.2 h1)]
    by_cases h2 : (x.chcr.extractLsb' 2 2 = 0#2 ∨ x.chainEnded = true)
    · rw [if_pos h2]
      refine (h.setPch _).complete.congr ?_ ?_ ?_
      · simp [PChannel.unitCompletes, h1, h2]
      · intro; simp [PChannel.unitMoved]
      · simp
    · rw [if_neg h2]
      refine ((h.setPch _).setPch _).rest.congr ?_ ?_ ?_
      · simp only [not_or] at h2
        simp [PChannel.unitCompletes, h1, h2]
      · simp
      · intro; simp [PChannel.unitMoved, h1]
  · rw [if_neg (fun e => h1 (hq.1 e))]
    refine (h.setPch _).rest.congr ?_ ?_ ?_
    · simp [PChannel.unitCompletes, h1]
    · simp
    · intro; simp [PChannel.unitMoved, h1]

theorem memP_endOfUnitP (c : PChan) (s : State) : (endOfUnitP c s).memP = s.memP := by
  unfold endOfUnitP
  dsimp only
  split
  · split
    · exact memP_completeP _ _
    · rfl
  · rfl

theorem spr_endOfUnitP (c : PChan) (s : State) : (endOfUnitP c s).spr = s.spr := by
  unfold endOfUnitP
  dsimp only
  split
  · split
    · exact spr_completeP _ _
    · rfl
  · rfl

/-! ### Dispatch -/

theorem pChan_all_getElem (i : Fin 10) : PChan.all[i.val]'(by simp [PChan.all]) = i := by
  revert i; decide

theorem mem_pChan_all (c : PChan) : c ∈ PChan.all := by revert c; decide

/-- The channel a service takes: the lowest-numbered ready one (R291). -/
theorem selectP_some {s : State} {c : PChan} :
    selectP s = some c ↔ readyP s c = true ∧ ∀ d : PChan, d < c → readyP s d = false := by
  unfold selectP
  rw [List.find?_eq_some_iff_getElem]
  constructor
  · rintro ⟨hc, i, hi, rfl, hlt⟩
    have hi' : i < 10 := by simpa [PChan.all] using hi
    rw [pChan_all_getElem ⟨i, hi'⟩] at hc ⊢
    refine ⟨hc, fun d hd => ?_⟩
    have := hlt d.val hd
    rw [pChan_all_getElem d] at this
    simpa using this
  · rintro ⟨hc, hlt⟩
    refine ⟨hc, c.val, by simp [PChan.all], pChan_all_getElem c, fun j hj => ?_⟩
    have hj' : j < 10 := by have := c.isLt; omega
    rw [pChan_all_getElem ⟨j, hj'⟩]
    simpa using hlt ⟨j, hj'⟩ hj

theorem selectP_none {s : State} : selectP s = none ↔ ∀ c, readyP s c = false := by
  unfold selectP
  rw [List.find?_eq_none]
  constructor
  · intro h c; simpa using h c (mem_pChan_all c)
  · intro h c _; simp [h c]

theorem readyP_iff {s : State} {c : PChan} :
    readyP s c = true ↔ (s.pch c).chcr.getLsbD 8 = true ∧ (s.pch c).drq = true := by
  simp [readyP, pStr]

/-- A service of the channel it takes is that channel's sub-step (R290). -/
theorem ServesP.run {s : State} {c : PChan} (h : ServesP s c) :
    runServiceP s = settle .P c.val s (serviceChannelP c s) := by
  have hs : selectP s = some c :=
    selectP_some.2 ⟨readyP_iff.2 ⟨h.start, h.request⟩, fun d hd => by
      have := h.first d hd
      rw [← readyP_iff] at this
      simpa using this⟩
  have he : dmae s.engP.dCtrl = true := h.enable
  simp [runServiceP, h.sound, hs, he]

/-- A service that makes a sub-step has taken a channel. -/
theorem runServiceP_cases (s : State) :
    (runServiceP s = s.respond .noStep ∧ s.engP.fault.isSome = true) ∨ runServiceP s = s.respond .idle ∨
    ∃ c, ServesP s c ∧ runServiceP s = settle .P c.val s (serviceChannelP c s) := by
  by_cases hf : s.engP.fault.isSome = true
  · exact .inl ⟨by simp [runServiceP, hf], hf⟩
  by_cases he : dmae s.engP.dCtrl = true
  · cases hs : selectP s with
    | none => exact .inr (.inl (by simp [runServiceP, hf, he, hs]))
    | some c =>
      obtain ⟨hr, hlt⟩ := selectP_some.1 hs
      obtain ⟨h1, h2⟩ := readyP_iff.1 hr
      have h : ServesP s c := ⟨by simpa using hf, he, h1, h2, fun d hd => by
        rw [← readyP_iff, hlt d hd]; simp⟩
      exact .inr (.inr ⟨c, h, h.run⟩)
  · exact .inr (.inl (by simp [runServiceP, hf, he]))

end Sys2Proof.Machine
end

