-- ==== Sys2Proof/Laws/EngineS.lean ====
section
/-! SUPPORT. What the sub-steps of engine S do, each said once: the calls they make (`CallsS`), how they end (`EndsS` of
Safety.lean), and which channel a service takes. -/

namespace Sys2Proof.Machine

/-- What a sub-step of channel c has done so far: the channel is x, `calls` were made, and nothing else of the core is
changed. -/
structure CallsS (c : SChan) (x : SChannel) (calls : List Event) (s t : State) : Prop where
  channel : t.sch c = x
  others : ∀ d, d ≠ c → t.sch d = s.sch d
  engine : { t.engS with ch := s.engS.ch } = s.engS
  log : t.log = s.log ++ calls
  engP : t.engP = s.engP
  cfg : t.cfg = s.cfg
  memP : t.memP = s.memP
  spr : t.spr = s.spr
  peersS : ∀ d, d ≠ c → t.peersS[d] = s.peersS[d]
  peersP : t.peersP = s.peersP
  pending : t.pending = s.pending

theorem CallsS.refl (c : SChan) (s : State) : CallsS c (s.sch c) [] s s := by
  constructor <;> simp

variable {c : SChan} {x : SChannel} {calls : List Event} {s t : State}

theorem CallsS.setSch (h : CallsS c x calls s t) (y : SChannel) : CallsS c y calls s (t.setSch c y) where
  channel := State.sch_setSch_self t c y
  others d hd := (State.sch_setSch_ne t y hd).trans (h.others d hd)
  engine := h.engine
  log := h.log
  engP := h.engP
  cfg := h.cfg
  memP := h.memP
  spr := h.spr
  peersS := h.peersS
  peersP := h.peersP
  pending := h.pending

theorem CallsS.record (h : CallsS c x calls s t) (e : Event) : CallsS c x (calls ++ [e]) s (t.record e) where
  channel := h.channel
  others := h.others
  engine := h.engine
  log := by simp [h.log]
  engP := h.engP
  cfg := h.cfg
  memP := h.memP
  spr := h.spr
  peersS := h.peersS
  peersP := h.peersP
  pending := h.pending

theorem CallsS.setMemS (h : CallsS c x calls s t) (m : Memory) : CallsS c x calls s (t.setMemS m) :=
  ⟨h.1, h.2, h.3, h.4, h.5, h.6, h.7, h.8, h.9, h.10, h.11⟩

/-- A peer call: the peer may set its channel's request flag. -/
theorem CallsS.afterCall (h : CallsS c x calls s t) (e : Event) :
    CallsS c { x with drq := (answerS t c).request.getD x.drq } (calls ++ [e]) s (afterCallS c e t) := by
  rw [afterCallS_eq]
  exact {
    channel := by
      show (t.setSch c _).sch c = _
      rw [State.sch_setSch_self, h.channel]
    others := fun d hd => by
      show (t.setSch c _).sch d = _
      rw [State.sch_setSch_ne _ _ hd, h.others d hd]
    engine := h.engine
    log := by simp [h.log]
    engP := h.engP
    cfg := h.cfg
    memP := h.memP
    spr := h.spr
    peersS := fun d hd => (peersS_dropAnswerS_ne t hd).trans (h.peersS d hd)
    peersP := h.peersP
    pending := h.pending }

theorem memS_afterCallS (c : SChan) (e : Event) (s : State) : (afterCallS c e s).memS = s.memS := by
  rw [afterCallS_eq]

theorem CallsS.busWriteS (h : CallsS c x calls s t) (a : AddrS) (w : Word) :
    CallsS c x (calls ++ [.memWriteS (busAddrS a) w]) s (busWriteS a w t) := (h.setMemS _).record _

theorem memS_busWriteS (a : AddrS) (w : Word) (s : State) :
    (busWriteS a w s).memS = s.memS.writeWord (busAddrS a).toNat w := by
  simp [busWriteS]

/-! ### The end of a sub-step -/

/-- A sub-step that completes nothing. -/
theorem CallsS.rest (h : CallsS c x calls s t) : EndsS c x false calls s (t.respond (.progress c.val)) := by
  have he := h.engine
  have hm : t.engS.mif = s.engS.mif := by rw [← he]
  exact {
    channel := by simpa using h.channel
    others := h.others
    ip1 := fun i => by rw [← he]; simp
    ip2 := fun i => by rw [← he]; simp
    tip := fun i => by rw [← he]; simp
    enables := by rw [← he]; simp
    masks := by rw [← he]; simp
    fault := by rw [← he]; simp
    mif := by simpa using hm
    log := by simp [h.log, hm]
    response := rfl
    engP := h.engP
    cfg := h.cfg
    memP := h.memP
    spr := h.spr
    peersS := h.peersS
    peersP := h.peersP
    pending := h.pending }

/-- The master flag's term of the pending sets, widened (R415). -/
theorem pending_or_ne_zero (a : BitVec 7) (b : BitVec 6) : (a ||| b.setWidth 7 != 0) = ((a != 0) || (b != 0)) := by
  rw [Bool.eq_iff_iff]
  simp only [bne_iff_ne, Bool.or_eq_true, ne_eq]
  constructor
  · intro h
    by_contra hn
    push Not at hn
    exact h (by simp [hn.1, hn.2])
  · rintro h e
    have hi : ∀ i, i < 7 → a.getLsbD i = false ∧ b.getLsbD i = false := by
      intro i hi
      have := congrArg (·.getLsbD i) e
      simpa [hi] using this
    rcases h with h | h
    · exact h (BitVec.eq_of_getLsbD_eq fun i hi' => by simpa using (hi i hi').1)
    · exact h (BitVec.eq_of_getLsbD_eq fun i hi' => by simpa using (hi i (by omega)).2)

theorem sMode_burst (v : Word) : sMode v = .burst ↔ v.extractLsb' 9 2 = 0#2 := by
  unfold sMode
  generalize v.extractLsb' 9 2 = m
  revert m; decide

theorem sMode_slice (v : Word) : sMode v = .slice ↔ v.extractLsb' 9 2 = 1#2 := by
  unfold sMode
  generalize v.extractLsb' 9 2 = m
  revert m; decide

theorem sMode_linkedList (v : Word) : sMode v = .linkedList ↔ v.extractLsb' 9 2 = 2#2 := by
  unfold sMode
  generalize v.extractLsb' 9 2 = m
  revert m; decide

theorem sMode_chain (v : Word) : sMode v = .chain ↔ v.extractLsb' 9 2 = 3#2 := by
  unfold sMode
  generalize v.extractLsb' 9 2 = m
  revert m; decide

/-- Which completions set TIP, by the mode's bits (R345, R356). -/
theorem setsTip_eq (x : SChannel) : setsTip x = (x.tagIrq && x.chcr.extractLsb' 9 2 != 1) := by
  unfold setsTip sMode
  generalize x.chcr.extractLsb' 9 2 = m
  revert m
  cases x.tagIrq <;> decide

/-- CompleteS, said once (R356, R415, R416, R418). -/
theorem CallsS.complete (h : CallsS c x calls s t) :
    EndsS c x true calls s ((completeS c t).respond (.progress c.val)) := by
  have he := h.engine
  have hip1 : t.engS.ip1 = s.engS.ip1 := by rw [← he]
  have him1 : t.engS.im1 = s.engS.im1 := by rw [← he]
  have hip2 : t.engS.ip2 = s.engS.ip2 := by rw [← he]
  have him2 : t.engS.im2 = s.engS.im2 := by rw [← he]
  have htip : t.engS.tip = s.engS.tip := by rw [← he]
  have hmif : t.engS.mif = s.engS.mif := by rw [← he]
  have hint : t.engS.dmacinten = s.engS.dmacinten := by rw [← he]
  have hlt := c.isLt
  unfold completeS
  rw [reevalS_eq]
  refine {
    channel := ?_
    others := ?_
    ip1 := ?_
    ip2 := ?_
    tip := ?_
    enables := by
      show t.engS.dpcr = _ ∧ t.engS.dpcr2 = _ ∧ t.engS.dmacen = _
      rw [← he]; simp
    masks := by
      show t.engS.be = _ ∧ t.engS.im1 = _ ∧ t.engS.mie = _ ∧ t.engS.im2 = _ ∧ t.engS.dmacinten = _
      rw [← he]; simp
    fault := by
      show t.engS.fault = _
      rw [← he]
    mif := ?_
    log := ?_
    response := rfl
    engP := h.engP
    cfg := h.cfg
    memP := h.memP
    spr := h.spr
    peersS := h.peersS
    peersP := h.peersP
    pending := h.pending }
  · show (t.setSch c _).sch c = _
    rw [State.sch_setSch_self, h.channel]
    simp [sClearStr]
  · intro d hd
    show (t.setSch c _).sch d = _
    rw [State.sch_setSch_ne _ _ hd, h.others d hd]
  · intro i
    show (if c.val ≤ 6 ∧ t.engS.im1.getLsbD c.val = true then withBit t.engS.ip1 c.val else t.engS.ip1).getLsbD i = _
    rw [hip1, him1]
    split
    · rename_i hc
      rw [withBit_getLsbD _ _ _ (by omega)]
      by_cases hi : i = c.val
      · simp [hi, hc.2]
      · have e1 : (i == c.val) = false := beq_eq_false_iff_ne.2 hi
        simp [e1]
    · rename_i hc
      by_cases hi : i = c.val
      · have : s.engS.im1.getLsbD c.val = false := by
          by_cases h6 : c.val ≤ 6
          · simpa [h6] using hc
          · exact BitVec.getLsbD_of_ge _ _ (by omega)
        simp [hi, this]
      · simp [hi]
  · intro i
    show (if 7 ≤ c.val ∧ t.engS.im2.getLsbD (c.val - 7) = true then withBit t.engS.ip2 (c.val - 7)
      else t.engS.ip2).getLsbD i = _
    rw [hip2, him2]
    split
    · rename_i hc
      rw [withBit_getLsbD _ _ _ (by omega)]
      by_cases hi : i = c.val - 7
      · simp [hi, hc.2, Nat.sub_add_cancel hc.1]
      · have e1 : (i == c.val - 7) = false := beq_eq_false_iff_ne.2 hi
        have e2 : (i + 7 == c.val) = false := beq_eq_false_iff_ne.2 (by omega)
        simp [e1, e2]
    · rename_i hc
      by_cases hi : i + 7 = c.val
      · have : s.engS.im2.getLsbD i = false := by
          have e : c.val - 7 = i := by omega
          rw [e] at hc
          simpa [show 7 ≤ c.val by omega] using hc
        simp [this]
      · simp [hi]
  · intro i
    show (if setsTip (t.sch c) = true then withBit t.engS.tip c.val else t.engS.tip).getLsbD i = _
    rw [htip, h.channel, setsTip_eq]
    generalize (x.tagIrq && x.chcr.extractLsb' 9 2 != 1) = tip
    cases tip
    · simp
    · simp [withBit_getLsbD _ _ _ hlt]
  · show masterS _ = _
    simp only [masterS, pending_or_ne_zero]
    rfl
  · show t.log ++ _ = _
    rw [h.log]
    show _ ++ (if (masterS _ && !t.engS.mif && !mid t.engS.dmacinten) = true then _ else _) = _
    rw [hmif, hint]
    rfl

theorem memS_reevalS (s : State) : (reevalS s).memS = s.memS := by rw [reevalS_eq]

theorem memS_completeS (c : SChan) (s : State) : (completeS c s).memS = s.memS := memS_reevalS _

/-- A condition on a completion: whatever `fin` is, the channel ends as `EndsS` says. -/
theorem EndsS.congr {y : SChannel} {fin fin' : Bool} (h : EndsS c x fin calls s t) (hf : fin = fin')
    (hx : fin = true → x.madr = y.madr ∧ x.bcr = y.bcr ∧ x.chcr = y.chcr ∧ x.tadr = y.tadr ∧ x.tagIrq = y.tagIrq ∧
      x.drq = y.drq)
    (hx' : fin = false → x = y) : EndsS c y fin' calls s t := by
  subst hf
  cases fin with
  | false => rw [← hx' rfl]; exact h
  | true =>
    obtain ⟨h1, h2, h3, h4, h5, h6⟩ := hx rfl
    exact { h with
      channel := by rw [h.channel]; simp [h1, h2, h3, h4, h6]
      tip := fun i => by rw [h.tip, h3, h5] }

/-- The end of a word, said once (R350, R356). -/
theorem CallsS.endOfWord (h : CallsS c x calls s t) :
    EndsS c x.wordMoved x.wordCompletes calls s ((endOfWordS c t).respond (.progress c.val)) := by
  unfold endOfWordS
  simp only [h.channel, sMode_slice, Bool.or_eq_true, decide_eq_true_eq]
  have hq : (x.remaining - 1 = 0) ↔ x.remaining = 1#32 := by
    constructor
    · intro e; have := congrArg (· + 1) e; simpa using this
    · intro e; simp [e]
  by_cases h1 : x.remaining = 1#32
  · rw [if_pos (hq.2 h1)]
    by_cases h2 : (x.chcr.extractLsb' 9 2 = 1#2 ∨ x.chainEnded = true)
    · rw [if_pos h2]
      refine (h.setSch _).complete.congr ?_ ?_ ?_
      · simp [SChannel.wordCompletes, h1, h2]
      · intro; simp [SChannel.wordMoved]
      · simp
    · rw [if_neg h2]
      refine ((h.setSch _).setSch _).rest.congr ?_ ?_ ?_
      · simp only [not_or] at h2
        simp [SChannel.wordCompletes, h1, h2]
      · simp
      · intro; simp [SChannel.wordMoved, h1]
  · rw [if_neg (fun e => h1 (hq.1 e))]
    refine (h.setSch _).rest.congr ?_ ?_ ?_
    · simp [SChannel.wordCompletes, h1]
    · simp
    · intro; simp [SChannel.wordMoved, h1]

theorem memS_endOfWordS (c : SChan) (s : State) : (endOfWordS c s).memS = s.memS := by
  unfold endOfWordS
  dsimp only
  split
  · split
    · exact memS_completeS _ _
    · rfl
  · rfl

/-! ### Dispatch -/

theorem sChan_all_getElem (i : Fin 13) : SChan.all[i.val]'(by simp [SChan.all]) = i := by
  revert i; decide

theorem mem_sChan_all (c : SChan) : c ∈ SChan.all := by revert c; decide

/-- The channel a service takes: the lowest-numbered ready one (R341). -/
theorem selectS_some {s : State} {c : SChan} :
    selectS s = some c ↔ readyS s c = true ∧ ∀ d : SChan, d < c → readyS s d = false := by
  unfold selectS
  rw [List.find?_eq_some_iff_getElem]
  constructor
  · rintro ⟨hc, i, hi, rfl, hlt⟩
    have hi' : i < 13 := by simpa [SChan.all] using hi
    rw [sChan_all_getElem ⟨i, hi'⟩] at hc ⊢
    refine ⟨hc, fun d hd => ?_⟩
    have := hlt d.val hd
    rw [sChan_all_getElem d] at this
    simpa using this
  · rintro ⟨hc, hlt⟩
    refine ⟨hc, c.val, by simp [SChan.all], sChan_all_getElem c, fun j hj => ?_⟩
    have hj' : j < 13 := by have := c.isLt; omega
    rw [sChan_all_getElem ⟨j, hj'⟩]
    simpa using hlt ⟨j, hj'⟩ hj

theorem selectS_none {s : State} : selectS s = none ↔ ∀ c, readyS s c = false := by
  unfold selectS
  rw [List.find?_eq_none]
  constructor
  · intro h c; simpa using h c (mem_sChan_all c)
  · intro h c _; simp [h c]

theorem enableS_eq (s : State) (c : SChan) : enableS s.engS c = channelEnable s c := rfl

theorem readyS_iff {s : State} {c : SChan} :
    readyS s c = true ↔
      (s.sch c).chcr.getLsbD 24 = true ∧ (s.sch c).drq = true ∧ channelEnable s c = true := by
  simp [readyS, sStr, enableS_eq, and_assoc]

/-- A service of the channel it takes is that channel's sub-step (R340). -/
theorem ServesS.run {s : State} {c : SChan} (h : ServesS s c) :
    runServiceS s = settle .S c.val s (serviceChannelS c s) := by
  have hs : selectS s = some c :=
    selectS_some.2 ⟨readyS_iff.2 ⟨h.start, h.request, h.allowed⟩, fun d hd => by
      have := h.first d hd
      rw [← readyS_iff] at this
      simpa using this⟩
  have he : sEnable s.engS.dmacen = true := h.enable
  simp [runServiceS, h.sound, hs, he]

/-- A service that makes a sub-step has taken a channel. -/
theorem runServiceS_cases (s : State) :
    (runServiceS s = s.respond .noStep ∧ s.engS.fault.isSome = true) ∨ runServiceS s = s.respond .idle ∨
    ∃ c, ServesS s c ∧ runServiceS s = settle .S c.val s (serviceChannelS c s) := by
  by_cases hf : s.engS.fault.isSome = true
  · exact .inl ⟨by simp [runServiceS, hf], hf⟩
  by_cases he : sEnable s.engS.dmacen = true
  · cases hs : selectS s with
    | none => exact .inr (.inl (by simp [runServiceS, hf, he, hs]))
    | some c =>
      obtain ⟨hr, hlt⟩ := selectS_some.1 hs
      obtain ⟨h1, h2, h3⟩ := readyS_iff.1 hr
      have h : ServesS s c := ⟨by simpa using hf, he, h1, h2, h3, fun d hd => by
        rw [← readyS_iff, hlt d hd]; simp⟩
      exact .inr (.inr ⟨c, h, h.run⟩)
  · exact .inr (.inl (by simp [runServiceS, hf, he]))

end Sys2Proof.Machine
end

