-- ==== Sys2Proof/Laws/ServiceP.lean ====
section
/-! SUPPORT. Everything a service of engine P can do, said once: the result of each sub-step by its case, and
`serviceChannelP_cases`, from which frames, precision, raises and the invariant follow. -/

namespace Sys2Proof.Machine

variable {c : PChan} {s t : State}

/-! ### Each sub-step by its case -/

theorem isSprChan_iff (c : PChan) : isSprChan c = true ↔ c = 8 ∨ c = 9 := by revert c; decide

theorem answerP_record (s : State) (e : Event) (c : PChan) : answerP (s.record e) c = answerP s c := rfl

/-- What the peer of channels 8 and 9 answers: never full, never empty (R114, R302). -/
theorem answerP_spr (hc : isSprChan c = true) : answerP s c = ⟨true, some (sprReadP s c), none⟩ := if_pos hc

/-- What every other peer answers: its script, or a free value. -/
theorem answerP_peer (hc : isSprChan c = false) :
    answerP s c = match s.peersP[c] with | r :: _ => r | [] => Config.peerReplyP c s.peerCalls :=
  if_neg (by simp [hc])

/-- A decode's writes do not change what the peer answers: SADR is not among them. -/
theorem answerP_writeDecodedP (tag : Quad) (r : TagResult) : answerP (writeDecodedP c tag r t) c = answerP t c := by
  have h : sprReadP (writeDecodedP c tag r t) c = sprReadP t c := by
    unfold sprReadP writeDecodedP
    rw [State.pch_setPch_self, State.spr_setPch]
  unfold answerP
  rw [h]
  rfl

/-- Memory to peer, the push accepted (R295). -/
theorem transferToPeerP_done (hc : isSprChan c = false) (ha : (answerP s c).accepts = true) :
    transferToPeerP c s = .done (endOfUnitP c (afterCallP c
      (.pushP c (s.memP.readQuad (busAddrP (s.pch c).madr).toNat) true)
      (s.record (.memReadP (busAddrP (s.pch c).madr))))) := by
  simp [transferToPeerP, hc, afterBusReadP, answerP_record, ha, afterPushP, busReadP]

/-- Memory to peer, the push refused (R295, R301). -/
theorem transferToPeerP_full (hc : isSprChan c = false) (ha : (answerP s c).accepts = false) :
    transferToPeerP c s = .fatal (unitOverflowP c (s.memP.readQuad (busAddrP (s.pch c).madr).toNat))
      (afterCallP c (.pushP c (s.memP.readQuad (busAddrP (s.pch c).madr).toNat) false)
        (s.record (.memReadP (busAddrP (s.pch c).madr)))) := by
  simp [transferToPeerP, hc, afterBusReadP, answerP_record, ha, afterPushP, busReadP]

/-- Memory to scratchpad (R295, R302). -/
theorem transferToPeerP_spr (hc : isSprChan c = true) :
    transferToPeerP c s = .done (endOfUnitP c (sprPut c (s.memP.readQuad (busAddrP (s.pch c).madr).toNat)
      (s.record (.memReadP (busAddrP (s.pch c).madr))))) := by
  simp [transferToPeerP, hc, afterBusReadP, busReadP]

/-- Peer to memory (R295). -/
theorem transferToMemoryP_done {q : Quad} (hc : isSprChan c = false) (ha : (answerP s c).unit = some q) :
    transferToMemoryP c s = .done (endOfUnitP c (busWriteP (s.pch c).madr q (afterCallP c (.popP c (some q)) s))) := by
  simp [transferToMemoryP, unitFromPeerP, afterUnitFromPeerP, hc, ha, afterPopP]

/-- Peer to memory, nothing to pop (R295, R301). -/
theorem transferToMemoryP_none (hc : isSprChan c = false) (ha : (answerP s c).unit = none) :
    transferToMemoryP c s = .fatal (underflowP c .transfer) (afterCallP c (.popP c none) s) := by
  simp [transferToMemoryP, unitFromPeerP, afterUnitFromPeerP, hc, ha, afterPopP]

/-- Scratchpad to memory (R295, R302). -/
theorem transferToMemoryP_spr (hc : isSprChan c = true) :
    transferToMemoryP c s = .done (endOfUnitP c (busWriteP (s.pch c).madr (sprReadP s c) (afterSprGet c s))) := by
  simp [transferToMemoryP, unitFromPeerP, afterUnitFromPeerP, hc]

theorem CallsP.advanceSadr {x : PChannel} {calls : List Event} (h : CallsP c x calls s t) :
    CallsP c { x with sadr := x.sadr + 16 } calls s (advanceSadr c t) := by
  obtain rfl := h.channel
  exact h.setPch _

theorem CallsP.afterSprGet {x : PChannel} {calls : List Event} (h : CallsP c x calls s t) :
    CallsP c { x with sadr := x.sadr + 16 } (calls ++ [.sprRead (sprOffset x.sadr)]) s (afterSprGet c t) := by
  obtain rfl := h.channel
  exact (h.record _).advanceSadr

theorem CallsP.sprPut {x : PChannel} {calls : List Event} (h : CallsP c x calls s t) (q : Quad) :
    CallsP c { x with sadr := x.sadr + 16 } (calls ++ [.sprWrite (sprOffset x.sadr) q]) s (sprPut c q t) := by
  obtain rfl := h.channel
  exact ((h.setSpr _).record _).advanceSadr

theorem CallsP.busWriteP {x : PChannel} {calls : List Event} (h : CallsP c x calls s t) (a : Word) (q : Quad) :
    CallsP c x (calls ++ [.memWriteP (busAddrP a) q]) s (busWriteP a q t) := (h.setMemP _).record _

@[simp] theorem memP_sprPut (c : PChan) (q : Quad) (s : State) : (sprPut c q s).memP = s.memP := by
  simp [sprPut, advanceSadr]

@[simp] theorem spr_sprPut (c : PChan) (q : Quad) (s : State) :
    (sprPut c q s).spr = s.spr.writeQuad (sprOffset (s.pch c).sadr).toNat q := by
  simp [sprPut, advanceSadr]

@[simp] theorem memP_afterSprGet (c : PChan) (s : State) : (afterSprGet c s).memP = s.memP := by
  simp [afterSprGet, advanceSadr]

@[simp] theorem spr_afterSprGet (c : PChan) (s : State) : (afterSprGet c s).spr = s.spr := by
  simp [afterSprGet, advanceSadr]

@[simp] theorem memP_busWriteP (a : Word) (q : Quad) (s : State) :
    (busWriteP a q s).memP = s.memP.writeQuad (busAddrP a).toNat q := by
  simp [busWriteP]

@[simp] theorem spr_busWriteP (a : Word) (q : Quad) (s : State) : (busWriteP a q s).spr = s.spr := by
  simp [busWriteP]

/-- The last line of a decode, said once (R296, R298): an empty segment of an ended chain completes the channel; one of a
chain that goes on leaves no tag. -/
theorem CallsP.endDecode {x : PChannel} {calls : List Event} (h : CallsP c x calls s t) (hx : x.hasTag = true) :
    ∃ u, endDecodeP c x.qwc t = .done u ∧
      EndsP c { x with hasTag := x.qwc != 0 } (x.qwc == 0 && x.chainEnded) calls s (u.respond (.progress c.val)) ∧
      u.memP = t.memP ∧ u.spr = t.spr := by
  refine ⟨_, rfl, ?_⟩
  obtain rfl := h.channel
  unfold zeroSegmentP
  have e0 : (0 : BitVec 16) = 0#16 := rfl
  simp only [e0]
  generalize hy : t.pch c = x at *
  by_cases h1 : x.qwc = 0#16
  · rw [if_pos h1]
    by_cases h2 : x.chainEnded = true
    · rw [if_pos h2]
      refine ⟨h.complete.congr ?_ ?_ ?_, memP_completeP _ _, spr_completeP _ _⟩
      · simp [h1, h2]
      · simp
      · simp
    · rw [if_neg h2]
      refine ⟨(h.setPch _).rest.congr ?_ ?_ ?_, rfl, rfl⟩
      · simp [h2]
      · simp
      · simp [h1]
  · rw [if_neg h1]
    refine ⟨h.rest.congr ?_ ?_ ?_, rfl, rfl⟩
    · simp [h1]
    · simp
    · intro _; cases x; simp_all

/-! ### Decodes -/

/-- The channel after the writes of a decode (R252, R296). -/
theorem CallsP.writeDecoded {x : PChannel} {calls : List Event} (h : CallsP c x calls s t) (tag : Quad)
    (r : TagResult) :
    CallsP c
      { x with
        chcr := pSetTag x.chcr (tagCache tag)
        madr := r.madr
        tadr := r.tadr
        qwc := r.qwc
        chainEnded := r.ended
        hasTag := true }
      calls s (writeDecodedP c tag r t) := by
  obtain rfl := h.channel
  exact h.setPch _

/-- A decode that forwards nothing (R296). -/
theorem commitTagP_plain {fam : TagFamily} {tag : Quad} {r : TagResult}
    (hf : (fam = .source && pTte (t.pch c).chcr) = false) :
    commitTagP fam c tag (some r) t = endDecodeP c r.qwc (writeDecodedP c tag r t) := by
  simp only [commitTagP, hf]
  rfl

/-- A decode that forwards its payload (R297). -/
theorem commitTagP_forward {tag : Quad} {r : TagResult} (hf : pTte (t.pch c).chcr = true)
    (hc : t.cfg.tteFwd[c] = true) (ha : (answerP t c).accepts = true) :
    commitTagP .source c tag (some r) t =
      endDecodeP c r.qwc (afterCallP c (.pushTagP c (tag.extractLsb' 64 64) true) (writeDecodedP c tag r t)) := by
  have h1 : (writeDecodedP c tag r t).cfg = t.cfg := rfl
  simp [commitTagP, hf, forwardTagP, h1, answerP_writeDecodedP, hc, ha, afterPushTagP]

theorem commitTagP_noForward {tag : Quad} {r : TagResult} (hf : pTte (t.pch c).chcr = true)
    (hc : t.cfg.tteFwd[c] = false) :
    commitTagP .source c tag (some r) t = .fatal (tteUnsupported c tag) (writeDecodedP c tag r t) := by
  have h1 : (writeDecodedP c tag r t).cfg = t.cfg := rfl
  simp [commitTagP, hf, forwardTagP, h1, hc]

theorem commitTagP_full {tag : Quad} {r : TagResult} (hf : pTte (t.pch c).chcr = true)
    (hc : t.cfg.tteFwd[c] = true) (ha : (answerP t c).accepts = false) :
    commitTagP .source c tag (some r) t = .fatal (tagOverflow c (tag.extractLsb' 64 64))
      (afterCallP c (.pushTagP c (tag.extractLsb' 64 64) false) (writeDecodedP c tag r t)) := by
  have h1 : (writeDecodedP c tag r t).cfg = t.cfg := rfl
  simp [commitTagP, hf, forwardTagP, h1, answerP_writeDecodedP, hc, ha, afterPushTagP]

/-! ### Everything a sub-step can do -/

/-- An event that a sub-step of channel c may call: no other channel's peer, and no raise. -/
def CallOfP (c : PChan) (e : Event) : Prop :=
  (eventPeerP e = none ∨ eventPeerP e = some c) ∧ e ≠ .intcRaise .P ∧ e ≠ .intcRaise .S

/-- A sub-step of channel c that began in s ended well. -/
def SubStep.okP (c : PChan) (s : State) : SubStep → Prop
  | .done t => ∃ x fin calls, EndsP c x fin calls s (t.respond (.progress c.val)) ∧ (∀ e ∈ calls, CallOfP c e) ∧
      (s.memP.wf = true ∧ s.memP.below (2 ^ 32) = true → t.memP.wf = true ∧ t.memP.below (2 ^ 32) = true) ∧
      (s.spr.wf = true ∧ s.spr.below (2 ^ 14) = true → t.spr.wf = true ∧ t.spr.below (2 ^ 14) = true) ∧
      ((s.pch c).sound = true →
        x.chcr &&& ~~~pChcrMask = 0 ∧ (fin = false → x.chainEnded = true → x.hasTag = true))
  | .fatal r t => ∃ x calls, CallsP c x calls s t ∧ (∀ e ∈ calls, CallOfP c e) ∧ t.memP = s.memP ∧ t.spr = s.spr ∧
      r.engine = .P ∧ r.code ≠ .invariant ∧ r.channel = some c.val

theorem PChannel.sound_iff (x : PChannel) :
    x.sound = true ↔ x.chcr &&& ~~~pChcrMask = 0 ∧ (x.chainEnded = true → x.hasTag = true) := by
  cases h : x.chainEnded <;> simp [PChannel.sound, h]

theorem writeQuad_kept {m : Memory} {n a : Nat} (h : m.wf = true ∧ m.below n = true) (ha : a + 16 ≤ n) (v : Quad) :
    (m.writeQuad a v).wf = true ∧ (m.writeQuad a v).below n = true :=
  ⟨Memory.writeQuad_wf h.1 a v, Memory.writeQuad_below h.2 ha v⟩

theorem unitMoved_sound {x : PChannel} (h : x.sound = true) :
    x.unitMoved.chcr &&& ~~~pChcrMask = 0 ∧
      (x.unitCompletes = false → x.unitMoved.chainEnded = true → x.unitMoved.hasTag = true) := by
  obtain ⟨h1, h2⟩ := (PChannel.sound_iff x).1 h
  refine ⟨h1, fun hc he => ?_⟩
  have he' : x.chainEnded = true := he
  have hq : x.qwc ≠ 1#16 := by
    intro e; simp [PChannel.unitCompletes, e, he'] at hc
  simp [PChannel.unitMoved, h2 he', hq]

theorem CallsP.okP_endOfUnit {x : PChannel} {calls : List Event} (h : CallsP c x calls s t)
    (hc : ∀ e ∈ calls, CallOfP c e)
    (hm : s.memP.wf = true ∧ s.memP.below (2 ^ 32) = true → t.memP.wf = true ∧ t.memP.below (2 ^ 32) = true)
    (hp : s.spr.wf = true ∧ s.spr.below (2 ^ 14) = true → t.spr.wf = true ∧ t.spr.below (2 ^ 14) = true)
    (hx : (s.pch c).sound = true → x.sound = true) : SubStep.okP c s (.done (endOfUnitP c t)) :=
  ⟨_, _, _, h.endOfUnit, hc, by rwa [memP_endOfUnitP], by rwa [spr_endOfUnitP], fun hs => unitMoved_sound (hx hs)⟩

theorem transferUnitP_okP (c : PChan) (s : State) : (transferUnitP c s).okP c s := by
  have h0 := CallsP.refl c s
  have hr := h0.record (.memReadP (busAddrP (s.pch c).madr))
  unfold transferUnitP
  split
  · by_cases hc : isSprChan c = true
    · rw [transferToPeerP_spr hc]
      refine (hr.sprPut _).okP_endOfUnit (by simp [CallOfP, eventPeerP]) (by simp) ?_ ?_
      · intro h
        rw [spr_sprPut]
        exact writeQuad_kept h (sprOffset_bound _).2 _
      · simp [PChannel.sound]
    · simp only [Bool.not_eq_true] at hc
      cases ha : (answerP s c).accepts with
      | true =>
        rw [transferToPeerP_done hc ha]
        refine (hr.afterCall _).okP_endOfUnit (by simp [CallOfP, eventPeerP]) ?_ ?_ ?_
        · rw [memP_afterCallP]; exact id
        · rw [spr_afterCallP]; exact id
        · simp [PChannel.sound]
      | false =>
        rw [transferToPeerP_full hc ha]
        exact ⟨_, _, hr.afterCall _, by simp [CallOfP, eventPeerP], memP_afterCallP _ _ _, spr_afterCallP _ _ _, rfl,
          by simp [unitOverflowP, fatalRecord], rfl⟩
  · by_cases hc : isSprChan c = true
    · rw [transferToMemoryP_spr hc]
      refine ((h0.afterSprGet).busWriteP _ _).okP_endOfUnit (by simp [CallOfP, eventPeerP]) ?_ (by simp) ?_
      · intro h
        rw [memP_busWriteP]
        exact writeQuad_kept (by simpa using h) (busAddrP_bound _).2 _
      · simp [PChannel.sound]
    · simp only [Bool.not_eq_true] at hc
      cases ha : (answerP s c).unit with
      | none =>
        rw [transferToMemoryP_none hc ha]
        exact ⟨_, _, h0.afterCall _, by simp [CallOfP, eventPeerP], memP_afterCallP _ _ _, spr_afterCallP _ _ _, rfl,
          by simp [underflowP, fatalRecord], rfl⟩
      | some q =>
        rw [transferToMemoryP_done hc ha]
        refine ((h0.afterCall _).busWriteP _ _).okP_endOfUnit (by simp [CallOfP, eventPeerP]) ?_ ?_ ?_
        · intro h
          rw [memP_busWriteP, memP_afterCallP]
          exact writeQuad_kept h (busAddrP_bound _).2 _
        · rw [spr_busWriteP, spr_afterCallP]; exact id
        · simp [PChannel.sound]

theorem completeP_okP (c : PChan) (s : State) : SubStep.okP c s (.done (completeP c s)) := by
  refine ⟨_, _, _, (CallsP.refl c s).complete, by simp, by rw [memP_completeP]; exact id,
    by rw [spr_completeP]; exact id, fun h => ⟨((PChannel.sound_iff _).1 h).1, by simp⟩⟩

theorem pSetTag_reserved {v : Word} (h : v &&& ~~~pChcrMask = 0) (tag : BitVec 16) :
    pSetTag v tag &&& ~~~pChcrMask = 0 := by
  have h' : ∀ i, i < 32 → (v.getLsbD i && (~~~pChcrMask).getLsbD i) = false := by
    intro i _
    have := congrArg (·.getLsbD i) h
    simpa using this
  apply BitVec.eq_of_getLsbD_eq
  intro i hi
  have hv := h' i hi
  simp only [pSetTag, BitVec.getLsbD_and, BitVec.getLsbD_append, BitVec.getLsbD_setWidth]
  by_cases hlt : i < 16
  · simpa [hlt] using hv
  · have : (~~~pChcrMask).getLsbD i = false := by
      have hall : ∀ j : Fin 32, 16 ≤ j.val → (~~~pChcrMask).getLsbD j.val = false := by decide
      exact hall ⟨i, hi⟩ (by simpa using hlt)
    rw [this, Bool.and_false]
    exact (BitVec.getLsbD_zero ..).symm

theorem endDecode_okP {x : PChannel} {calls : List Event} (h : CallsP c x calls s t) (hx : x.hasTag = true)
    (hc : ∀ e ∈ calls, CallOfP c e) (hm : t.memP = s.memP) (hp : t.spr = s.spr)
    (hs : (s.pch c).sound = true → x.chcr &&& ~~~pChcrMask = 0) : SubStep.okP c s (endDecodeP c x.qwc t) := by
  obtain ⟨u, hu, he, h1, h2⟩ := h.endDecode hx
  rw [hu]
  refine ⟨_, _, _, he, hc, by rw [h1, hm]; exact id, by rw [h2, hp]; exact id, fun h => ⟨hs h, ?_⟩⟩
  intro hfin hen
  simp only at hen ⊢
  have hq : (x.qwc == 0) = false := by rw [hen, Bool.and_true] at hfin; exact hfin
  rw [bne, hq]
  rfl

theorem commitTagP_okP {x : PChannel} {calls : List Event} (h : CallsP c x calls s t) (fam : TagFamily) (tag : Quad)
    (res : Option TagResult) (hc : ∀ e ∈ calls, CallOfP c e) (hm : t.memP = s.memP) (hp : t.spr = s.spr)
    (hs : (s.pch c).sound = true → x.sound = true) : (commitTagP fam c tag res t).okP c s := by
  cases res with
  | none => exact ⟨_, _, h, hc, hm, hp, rfl, by simp [unmodelledTag, fatalRecord], rfl⟩
  | some r =>
    have hw := h.writeDecoded tag r
    have hs' : (s.pch c).sound = true → pSetTag x.chcr (tagCache tag) &&& ~~~pChcrMask = 0 := fun h =>
      pSetTag_reserved ((PChannel.sound_iff _).1 (hs h)).1 _
    by_cases hf : (fam = .source && pTte (t.pch c).chcr) = true
    · simp only [Bool.and_eq_true, decide_eq_true_eq] at hf
      obtain ⟨rfl, hf⟩ := hf
      cases hcf : t.cfg.tteFwd[c] with
      | false =>
        rw [commitTagP_noForward hf hcf]
        exact ⟨_, _, hw, hc, hm, hp, rfl, by simp [tteUnsupported, fatalRecord], rfl⟩
      | true =>
        have hcalls : ∀ b, ∀ e ∈ calls ++ [Event.pushTagP c (tag.extractLsb' 64 64) b], CallOfP c e := by
          intro b e he
          rcases List.mem_append.1 he with he | he
          · exact hc e he
          · simp only [List.mem_singleton] at he; subst he; simp [CallOfP, eventPeerP]
        cases ha : (answerP t c).accepts with
        | false =>
          rw [commitTagP_full hf hcf ha]
          exact ⟨_, _, hw.afterCall _, hcalls _, (memP_afterCallP _ _ _).trans hm, (spr_afterCallP _ _ _).trans hp, rfl,
            by simp [tagOverflow, fatalRecord], rfl⟩
        | true =>
          rw [commitTagP_forward hf hcf ha]
          exact endDecode_okP (hw.afterCall _) rfl (hcalls _) ((memP_afterCallP _ _ _).trans hm)
            ((spr_afterCallP _ _ _).trans hp) hs'
    · rw [commitTagP_plain (by simpa using hf)]
      exact endDecode_okP hw rfl hc hm hp hs'

theorem decodeStepP_okP (c : PChan) (s : State) : (decodeStepP c s).okP c s := by
  have h0 := CallsP.refl c s
  unfold decodeStepP
  cases hp : s.cfg.tagFromPeerP[c] with
  | false =>
    have h1 : afterFetchTagP c s = s.record (.memReadP (busAddrP (s.pch c).tadr)) := by
      simp [afterFetchTagP, hp, afterBusReadP]
    simp only [fetchTagP, hp, h1]
    exact commitTagP_okP (h0.record _) _ _ _ (by simp [CallOfP, eventPeerP]) rfl rfl id
  | true =>
    by_cases hc : isSprChan c = true
    · have h1 : afterFetchTagP c s = afterSprGet c s := by
        simp only [afterFetchTagP, afterUnitFromPeerP, hp, if_pos hc, if_true]
      have h2 : fetchTagP s c = some (sprReadP s c) := by
        simp only [fetchTagP, unitFromPeerP, hp, if_pos hc, if_true]
      simp only [h1, h2]
      exact commitTagP_okP h0.afterSprGet _ _ _ (by simp [CallOfP, eventPeerP]) (memP_afterSprGet _ _)
        (spr_afterSprGet _ _) (by simp [PChannel.sound])
    · have h1 : afterFetchTagP c s = afterPopP c s := by simp [afterFetchTagP, afterUnitFromPeerP, hp, hc]
      simp only [fetchTagP, unitFromPeerP, hp, hc, h1, if_true, Bool.false_eq_true, if_false, afterPopP]
      cases ha : (answerP s c).unit with
      | none =>
        exact ⟨_, _, h0.afterCall _, by simp [CallOfP, eventPeerP], memP_afterCallP _ _ _, spr_afterCallP _ _ _, rfl,
          by simp [underflowP, fatalRecord], rfl⟩
      | some q =>
        exact commitTagP_okP (h0.afterCall _) _ _ _ (by simp [CallOfP, eventPeerP]) (memP_afterCallP _ _ _)
          (spr_afterCallP _ _ _) (by simp [PChannel.sound])

/-- Everything a service of channel c can do. -/
theorem serviceChannelP_okP (c : PChan) (s : State) : (serviceChannelP c s).okP c s := by
  have h0 := CallsP.refl c s
  have hbad : SubStep.okP c s (.fatal (unmodelledModeP c (s.pch c).chcr) s) :=
    ⟨_, _, h0, by simp, rfl, rfl, rfl, by simp [unmodelledModeP, fatalRecord], rfl⟩
  unfold serviceChannelP
  split
  · exact hbad
  · exact hbad
  · unfold normalStepP
    split
    · exact completeP_okP c s
    · exact transferUnitP_okP c s
  · unfold chainStepP
    split
    · exact transferUnitP_okP c s
    · split
      · exact completeP_okP c s
      · exact decodeStepP_okP c s

end Sys2Proof.Machine
end

