-- ==== Sys2Proof/Laws/ServiceS.lean ====
section
/-! SUPPORT. Everything a service of engine S can do, said once: the result of each sub-step by its case, and
`serviceChannelS_okS`. -/

namespace Sys2Proof.Machine

variable {c : SChan} {s t : State}

/-! ### Each sub-step by its case -/

theorem answerS_record (s : State) (e : Event) (c : SChan) : answerS (s.record e) c = answerS s c := rfl

/-- Memory to peer, the push accepted (R350). -/
theorem transferToPeerS_done (ha : (answerS s c).accepts = true) :
    transferToPeerS c s = .done (endOfWordS c (afterCallS c
      (.pushS c (s.memS.readWord (busAddrS (s.sch c).madr).toNat) true)
      (s.record (.memReadS (busAddrS (s.sch c).madr))))) := by
  simp [transferToPeerS, afterBusReadS, answerS_record, ha, afterPushS, busReadS]

/-- Memory to peer, the push refused (R350, R352). -/
theorem transferToPeerS_full (ha : (answerS s c).accepts = false) :
    transferToPeerS c s = .fatal (unitOverflowS c (s.memS.readWord (busAddrS (s.sch c).madr).toNat))
      (afterCallS c (.pushS c (s.memS.readWord (busAddrS (s.sch c).madr).toNat) false)
        (s.record (.memReadS (busAddrS (s.sch c).madr)))) := by
  simp [transferToPeerS, afterBusReadS, answerS_record, ha, afterPushS, busReadS]

/-- Peer to memory (R350). -/
theorem transferToMemoryS_done {w : Word} (ha : (answerS s c).unit = some w) :
    transferToMemoryS c s =
      .done (endOfWordS c (busWriteS (s.sch c).madr w (afterCallS c (.popS c (some w)) s))) := by
  simp [transferToMemoryS, ha, afterPopS]

/-- Peer to memory, nothing to pop (R350, R352). -/
theorem transferToMemoryS_none (ha : (answerS s c).unit = none) :
    transferToMemoryS c s = .fatal (underflowS c .transfer) (afterCallS c (.popS c none) s) := by
  simp [transferToMemoryS, ha, afterPopS]

/-- The writes of an engine S tag (R275, R276). -/
def SChannel.loaded (x : SChannel) (t : STag) (fromPeer : Bool) : SChannel :=
  { x with
    madr := t.addr
    remaining := t.count
    chainEnded := t.ert || t.irq
    tagIrq := t.irq
    hasTag := t.count != 0
    tadr := if fromPeer then x.tadr else x.tadr + 8
    tagWords := !fromPeer && x.tagWords }

/-- The state after the writes of a tag step (R275, R276, R349). -/
theorem decodeS_eq (c : SChan) (g : STag) (t : State) :
    decodeS c g (if t.cfg.tagFromPeerS[c] then t.setSch c { t.sch c with tagWords := false }
      else t.setSch c { t.sch c with tadr := (t.sch c).tadr + 8 }) =
    t.setSch c { (t.sch c).loaded g t.cfg.tagFromPeerS[c] with hasTag := true } := by
  cases t.cfg.tagFromPeerS[c] <;> simp [decodeS, SChannel.loaded]

/-- The end of a tag step, said once (R275, R276, R349). -/
theorem CallsS.commitTag {x : SChannel} {calls : List Event} (h : CallsS c x calls s t) (g : STag) :
    ∃ u, commitTagS c g t = .done u ∧
      EndsS c (x.loaded g t.cfg.tagFromPeerS[c]) (g.count == 0 && (g.ert || g.irq)) calls s
        (u.respond (.progress c.val)) ∧ u.memS = t.memS := by
  obtain rfl := h.channel
  have h1 := h.setSch { (t.sch c).loaded g t.cfg.tagFromPeerS[c] with hasTag := true }
  refine ⟨_, rfl, ?_⟩
  rw [decodeS_eq]
  simp only [State.sch_setSch_self, State.setSch_setSch]
  generalize t.cfg.tagFromPeerS[c] = p at *
  have e0 : (0 : Word) = 0#32 := rfl
  rw [e0]
  by_cases hc : g.count = 0#32
  · rw [if_pos hc]
    by_cases he : (g.ert || g.irq) = true
    · have he' : ((t.sch c).loaded g p).chainEnded = true := he
      rw [if_pos he']
      refine ⟨h1.complete.congr (by simp [hc, he]) (by simp) (by simp), ?_⟩
      rw [memS_completeS]
      rfl
    · have he' : ¬((t.sch c).loaded g p).chainEnded = true := he
      rw [if_neg he']
      refine ⟨(h.setSch _).rest.congr (by simpa [hc] using he) (by simp) ?_, rfl⟩
      simp [SChannel.loaded, hc]
  · rw [if_neg hc]
    refine ⟨h1.rest.congr (by simp [hc]) (by simp) ?_, rfl⟩
    simp [SChannel.loaded, hc]

/-! ### Everything a sub-step can do -/

/-- An event that a sub-step of channel c may call: no other channel's peer, and no raise. -/
def CallOfS (c : SChan) (e : Event) : Prop :=
  (eventPeerS e = none ∨ eventPeerS e = some c) ∧ e ≠ .intcRaise .P ∧ e ≠ .intcRaise .S

/-- A sub-step of channel c that began in s ended well. -/
def SubStep.okS (c : SChan) (s : State) : SubStep → Prop
  | .done t => ∃ x fin calls, EndsS c x fin calls s (t.respond (.progress c.val)) ∧ (∀ e ∈ calls, CallOfS c e) ∧
      (s.memS.wf = true ∧ s.memS.below (2 ^ 24) = true → t.memS.wf = true ∧ t.memS.below (2 ^ 24) = true) ∧
      ((s.sch c).sound = true → fin = false → x.sound = true)
  | .fatal r t => ∃ x calls, CallsS c x calls s t ∧ (∀ e ∈ calls, CallOfS c e) ∧ t.memS = s.memS ∧
      r.engine = .S ∧ r.code ≠ .invariant ∧ r.channel = some c.val

theorem SChannel.sound_iff (x : SChannel) :
    x.sound = true ↔ (x.chainEnded = true → x.hasTag = true) ∧ (x.tagIrq = true → x.chainEnded = true) ∧
      (x.hasTag = true → x.remaining ≠ 0) := by
  cases h1 : x.chainEnded <;> cases h2 : x.hasTag <;> cases h3 : x.tagIrq <;> simp [SChannel.sound, h1, h2, h3]

theorem wordMoved_sound {x : SChannel} (h : x.sound = true) (hf : x.wordCompletes = false) :
    x.wordMoved.sound = true := by
  obtain ⟨h1, h2, h3⟩ := (SChannel.sound_iff x).1 h
  refine (SChannel.sound_iff _).2 ⟨?_, h2, ?_⟩
  · intro he
    have he' : x.chainEnded = true := he
    have hq : x.remaining ≠ 1#32 := by intro e; simp [SChannel.wordCompletes, e, he'] at hf
    simp [SChannel.wordMoved, h1 he', hq]
  · intro hh e
    have hh' : x.hasTag = true ∧ x.remaining ≠ 1#32 := by simpa [SChannel.wordMoved] using hh
    have e' : x.remaining - 1 = 0 := e
    refine hh'.2 ?_
    have := congrArg (· + 1) e'
    simpa using this

theorem writeWord_kept {m : Memory} {n a : Nat} (h : m.wf = true ∧ m.below n = true) (ha : a + 4 ≤ n) (v : Word) :
    (m.writeWord a v).wf = true ∧ (m.writeWord a v).below n = true :=
  ⟨Memory.writeWord_wf h.1 a v, Memory.writeWord_below h.2 ha v⟩

/-- A word's transfer, once the channel is x (R350). -/
theorem CallsS.transferWord {x : SChannel} {calls : List Event} (h : CallsS c x calls s t)
    (hc : ∀ e ∈ calls, CallOfS c e) (hm : t.memS = s.memS) (hx : (s.sch c).sound = true → x.sound = true) :
    (transferWordS c t).okS c s := by
  have hcalls : ∀ l : List Event, (∀ e ∈ l, CallOfS c e) → ∀ e ∈ calls ++ l, CallOfS c e := by
    intro l hl e he
    rcases List.mem_append.1 he with he | he
    · exact hc e he
    · exact hl e he
  obtain rfl := h.channel
  unfold transferWordS
  split
  · have hr := h.record (.memReadS (busAddrS (t.sch c).madr))
    cases ha : (answerS t c).accepts with
    | true =>
      rw [transferToPeerS_done ha]
      have hf := (hr.afterCall (.pushS c (t.memS.readWord (busAddrS (t.sch c).madr).toNat) true)).endOfWord
      refine ⟨_, _, _, hf, ?_, ?_, fun hs => wordMoved_sound (by simpa [SChannel.sound] using hx hs)⟩
      · rw [List.append_assoc]; exact hcalls _ (by simp [CallOfS, eventPeerS])
      · rw [memS_endOfWordS, memS_afterCallS]; rw [← hm]; exact id
    | false =>
      rw [transferToPeerS_full ha]
      refine ⟨_, _, hr.afterCall _, ?_, (memS_afterCallS _ _ _).trans hm, rfl, by simp [unitOverflowS, fatalRecord], rfl⟩
      rw [List.append_assoc]; exact hcalls _ (by simp [CallOfS, eventPeerS])
  · cases ha : (answerS t c).unit with
    | none =>
      rw [transferToMemoryS_none ha]
      exact ⟨_, _, h.afterCall _, hcalls _ (by simp [CallOfS, eventPeerS]), (memS_afterCallS _ _ _).trans hm, rfl,
        by simp [underflowS, fatalRecord], rfl⟩
    | some w =>
      rw [transferToMemoryS_done ha]
      have hf := ((h.afterCall (.popS c (some w))).busWriteS (t.sch c).madr w).endOfWord
      refine ⟨_, _, _, hf, ?_, ?_, fun hs => wordMoved_sound (by simpa [SChannel.sound] using hx hs)⟩
      · rw [List.append_assoc]; exact hcalls _ (by simp [CallOfS, eventPeerS])
      · intro hw
        rw [memS_endOfWordS, memS_busWriteS, memS_afterCallS, hm]
        exact writeWord_kept hw (busAddrS_bound _).2 _

theorem completeS_okS {x : SChannel} (h : CallsS c x [] s t) (hm : t.memS = s.memS) :
    SubStep.okS c s (.done (completeS c t)) :=
  ⟨_, _, _, h.complete, by simp, by rw [memS_completeS, hm]; exact id, by simp⟩

theorem loaded_sound {x : SChannel} {g : STag} {p : Bool} (hf : (g.count == 0 && (g.ert || g.irq)) = false) :
    (x.loaded g p).sound = true := by
  refine (SChannel.sound_iff _).2 ⟨?_, ?_, ?_⟩
  · intro he
    have he' : (g.ert || g.irq) = true := he
    have hq : (g.count == 0) = false := by rw [he', Bool.and_true] at hf; exact hf
    show (g.count != 0) = true
    rw [bne, hq]; rfl
  · intro hi
    have hi' : g.irq = true := hi
    show (g.ert || g.irq) = true
    simp [hi']
  · intro hh
    have : (g.count != 0) = true := hh
    exact bne_iff_ne.1 this

theorem CallsS.commitTag_okS {x : SChannel} {calls : List Event} (h : CallsS c x calls s t)
    (hc : ∀ e ∈ calls, CallOfS c e) (hm : t.memS = s.memS) (g : STag) : (commitTagS c g t).okS c s := by
  obtain ⟨u, hu, he, hmu⟩ := h.commitTag g
  rw [hu]
  exact ⟨_, _, _, he, hc, by rw [hmu, hm]; exact id, fun _ hf => loaded_sound hf⟩

theorem tagFromPeerS_none (ha : (answerS s c).unit = none) :
    tagFromPeerS c s = .fatal (underflowS c .tagRead) (afterCallS c (.popS c none) s) := by
  simp [tagFromPeerS, ha, afterPopS]

theorem tagWords_afterCallS (c : SChan) (e : Event) (s : State) :
    ((afterCallS c e s).sch c).tagWords = (s.sch c).tagWords ∧
      ((afterCallS c e s).sch c).tagBuf = (s.sch c).tagBuf := by
  rw [((CallsS.refl c s).afterCall e).channel]
  exact ⟨rfl, rfl⟩

/-- The first word of a peer-sourced tag (R349). -/
theorem tagFromPeerS_first {w : Word} (ha : (answerS s c).unit = some w) (hw : (s.sch c).tagWords = false) :
    tagFromPeerS c s = .done ((afterCallS c (.popS c (some w)) s).setSch c
      { (afterCallS c (.popS c (some w)) s).sch c with tagBuf := w, tagWords := true }) := by
  simp [tagFromPeerS, ha, afterPopS, tagWords_afterCallS, hw]

/-- The second word of a peer-sourced tag (R349). -/
theorem tagFromPeerS_second {w : Word} (ha : (answerS s c).unit = some w) (hw : (s.sch c).tagWords = true) :
    tagFromPeerS c s = commitTagS c (unpackSTag (s.sch c).tagBuf w) (afterCallS c (.popS c (some w)) s) := by
  simp [tagFromPeerS, ha, afterPopS, tagWords_afterCallS, hw]

theorem tagStepS_okS (c : SChan) (s : State) : (tagStepS c s).okS c s := by
  have h0 := CallsS.refl c s
  unfold tagStepS
  split
  · cases ha : (answerS s c).unit with
    | none =>
      rw [tagFromPeerS_none ha]
      exact ⟨_, _, h0.afterCall _, by simp [CallOfS, eventPeerS], memS_afterCallS _ _ _, rfl,
        by simp [underflowS, fatalRecord], rfl⟩
    | some w =>
      have h1 := h0.afterCall (.popS c (some w))
      cases hw : (s.sch c).tagWords with
      | true =>
        rw [tagFromPeerS_second ha hw]
        exact h1.commitTag_okS (by simp [CallOfS, eventPeerS]) (memS_afterCallS _ _ _) _
      | false =>
        rw [tagFromPeerS_first ha hw]
        refine ⟨_, _, _, (h1.setSch _).rest, by simp [CallOfS, eventPeerS], ?_, fun hs _ => ?_⟩
        · rw [State.memS_setSch, memS_afterCallS]; exact id
        · rw [h1.channel]
          simpa [SChannel.sound] using hs
  · exact ((h0.record _).record _).commitTag_okS (by simp [CallOfS, eventPeerS]) rfl _

theorem activate_eq (c : SChan) (s : State) :
    activateSliceS c s = s.setSch c { s.sch c with remaining := bcrWords (s.sch c).bcr, active := true } := rfl

theorem sliceStepS_okS (c : SChan) (s : State) : (sliceStepS c s).okS c s := by
  have h0 := CallsS.refl c s
  unfold sliceStepS
  by_cases ha : (s.sch c).active = true
  · simp only [ha, if_true]
    split
    · exact completeS_okS h0 rfl
    · exact h0.transferWord (by simp) rfl id
  · simp only [ha, Bool.false_eq_true, if_false]
    rw [activate_eq]
    have h1 := h0.setSch { s.sch c with remaining := bcrWords (s.sch c).bcr, active := true }
    split
    · exact completeS_okS h1 rfl
    · rename_i hr
      rw [State.sch_setSch_self] at hr
      refine h1.transferWord (by simp) rfl (fun hs => ?_)
      obtain ⟨k1, k2, -⟩ := (SChannel.sound_iff _).1 hs
      exact (SChannel.sound_iff _).2 ⟨k1, k2, fun _ => hr⟩

/-- Everything a service of channel c can do. -/
theorem serviceChannelS_okS (c : SChan) (s : State) : (serviceChannelS c s).okS c s := by
  have h0 := CallsS.refl c s
  have hbad : SubStep.okS c s (.fatal (unmodelledModeS c (s.sch c).chcr) s) :=
    ⟨_, _, h0, by simp, rfl, rfl, by simp [unmodelledModeS, fatalRecord], rfl⟩
  unfold serviceChannelS
  split
  · exact ⟨_, _, h0, by simp, rfl, rfl, by simp [unmodelledChannel, fatalRecord], rfl⟩
  · unfold modeCheckS
    split
    · exact hbad
    · split
      · exact hbad
      · exact hbad
      · exact sliceStepS_okS c s
      · unfold chainStepS
        split
        · exact h0.transferWord (by simp) rfl id
        · split
          · exact completeS_okS h0 rfl
          · exact tagStepS_okS c s

end Sys2Proof.Machine
end

