-- ==== Sys2Proof/Tests/Slice0.lean ====
section
/-! SUPPORT. The model's own tests: ill-formed terms that WellFormed refuses; every constructor's decoding, from the
addresses of R107 and R108 (spec/opcode_table.json) and the tag layouts of R157 to R160; one-step tests whose expected values
are those of 95_test_vectors.md (the vector's name stands beside each); and, for each statement with hypotheses, a witness
that meets them (`witness_<statement>`). -/

/-! ## Setting parts of a state -/

namespace Sys2Proof.Machine

/-- The answers engine P's peer c will give. -/
def State.peerP (s : State) (c : PChan) (l : List (PeerReply Quad)) : State := { s with peersP := s.peersP.set c l }

/-- The answers engine S's peer c will give. -/
def State.peerS (s : State) (c : SChan) (l : List (PeerReply Word)) : State := { s with peersS := s.peersS.set c l }

/-- A quadword in engine P's memory. -/
def State.quadAt (s : State) (a : Nat) (v : Quad) : State := { s with memP := s.memP.writeQuad a v }

/-- A word in engine S's memory. -/
def State.wordAt (s : State) (a : Nat) (v : Word) : State := { s with memS := s.memS.writeWord a v }

end Sys2Proof.Machine

namespace Sys2Proof.Tests

open Sys2Proof.Machine

set_option Elab.async false

/-! ## Small states -/

/-- The default configuration with every request flag 0 after reset: a concrete value for the two OPEN parameters. -/
def cfg0 : Config :=
  { Config.default with drqResetP := Vector.replicate 10 false, drqResetS := Vector.replicate 13 false }

/-- The machine after reset in that configuration. -/
def s0 : State := { State.reset with engP := EngineP.reset cfg0, engS := EngineS.reset cfg0, cfg := cfg0 }

/-- Engine P enabled, its channel c as given. -/
def pState (c : PChan) (x : PChannel) : State :=
  { s0 with engP := { s0.engP with ch := s0.engP.ch.set c x, dCtrl := 1 } }

/-- Engine S enabled, every channel of it enabled, its channel c as given. -/
def sState (c : SChan) (x : SChannel) : State :=
  { s0 with engS := { s0.engS with ch := s0.engS.ch.set c x, dmacen := 1, dpcr := 0x08888888, dpcr2 := 0x00888888 } }

/-- A started Normal channel of engine P, memory to peer, its request flag set. -/
def px : PChannel := { PChannel.reset true with chcr := 0x101, qwc := 1, madr := 0x1000 }

/-- A started Slice channel of engine S, memory to peer, its request flag set. -/
def sx : SChannel := { SChannel.reset true with chcr := 0x01000201, bcr := 0x00010001, madr := 0x1000 }

/-- The next state of an outcome. -/
def nextOf (o : Host.Outcome State Fault Refusal) : Option State :=
  match o with
  | .next t => some t
  | _ => none

/-- One step, on one operation. -/
def stepOn (s : State) (o : Operation) : Option State := nextOf (step { s with pending := [.op o] })

/-- What a step on an operation answers. -/
def answerTo (s : State) (o : Operation) : Option Response := (stepOn s o).map (·.response)

/-- Something of the state after a step on an operation. -/
def seen {α : Type} (s : State) (o : Operation) (f : State → α) : Option α := (stepOn s o).map f

/-- The raises in a state's log. -/
def raises (s : State) : Nat := s.log.count (.intcRaise .P) + s.log.count (.intcRaise .S)

/-- MADR, TADR, QWC and CHCR of a channel of engine P. -/
def regsP (c : PChan) (s : State) : Word × Word × BitVec 16 × Word :=
  ((s.pch c).madr, (s.pch c).tadr, (s.pch c).qwc, (s.pch c).chcr)

/-- MADR, TADR, `remaining` and CHCR of a channel of engine S. -/
def regsS (c : SChan) (s : State) : AddrS × AddrS × Word × Word :=
  ((s.sch c).madr, (s.sch c).tadr, (s.sch c).remaining, (s.sch c).chcr)

/-- A peer that takes every push and gives nothing. -/
def takes {α : Type} : PeerReply α := ⟨true, none, none⟩

/-- A peer that is full and empty. -/
def refuses {α : Type} : PeerReply α := ⟨false, none, none⟩

/-- A peer that gives a unit. -/
def gives {α : Type} (v : α) : PeerReply α := ⟨true, some v, none⟩

/-! ## WellFormed refuses an ill-formed term of each check -/

/-- A BCR value that its width cannot hold, at offsets 0 and 2 (R190). -/
theorem test_wellFormed_refuses_wide_values :
    (Instr.wrSBcr_0_0 .w8 0x100).wellFormed cfg0 = false ∧ (Instr.wrSBcr_0_0 .w16 0x10000).wellFormed cfg0 = false ∧
      (Instr.wrSBcr_0_2 .w8 0x100).wellFormed cfg0 = false := by decide

/-- A tag of the family its channel does not select (R253). -/
theorem test_wellFormed_refuses_other_family :
    (Instr.pSrcTagEnd 5 (unpackPTag 0)).wellFormed cfg0 = false ∧
      (Instr.pDstTagEnd 0 (unpackPTag 0)).wellFormed cfg0 = false ∧
      (Instr.pDstTagId2 9 (unpackPTag 0)).wellFormed cfg0 = false := by decide

/-! ## Decoding, every constructor -/

/-- The operation decodes to the instruction. -/
def decodesTo (p : Operation × Instr) : Bool :=
  match decode p.1 with
  | .ok i => i == p.2
  | .error _ => false

def readsP_0 : List (Operation × Instr) := [
  (.read 0x10008000 .w32, .rdPChcr_0),
  (.read 0x10008010 .w32, .rdPMadr_0),
  (.read 0x10008020 .w32, .rdPQwc_0),
  (.read 0x10008030 .w32, .rdPTadr_0),
  (.read 0x10008040 .w32, .rdPAsr0_0),
  (.read 0x10008050 .w32, .rdPAsr1_0),
  (.read 0x10008080 .w32, .rdPSadr_0)]

def writesP_0 : List (Operation × Instr) := [
  (.write 0x10008000 .w32 0xDEADBEEF, .wrPChcr_0 0xDEADBEEF),
  (.write 0x10008010 .w32 0xDEADBEEF, .wrPMadr_0 0xDEADBEEF),
  (.write 0x10008020 .w32 0xDEADBEEF, .wrPQwc_0 0xDEADBEEF),
  (.write 0x10008030 .w32 0xDEADBEEF, .wrPTadr_0 0xDEADBEEF),
  (.write 0x10008040 .w32 0xDEADBEEF, .wrPAsr0_0 0xDEADBEEF),
  (.write 0x10008050 .w32 0xDEADBEEF, .wrPAsr1_0 0xDEADBEEF),
  (.write 0x10008080 .w32 0xDEADBEEF, .wrPSadr_0 0xDEADBEEF)]

def readsP_1 : List (Operation × Instr) := [
  (.read 0x10009000 .w32, .rdPChcr_1),
  (.read 0x10009010 .w32, .rdPMadr_1),
  (.read 0x10009020 .w32, .rdPQwc_1),
  (.read 0x10009030 .w32, .rdPTadr_1),
  (.read 0x10009040 .w32, .rdPAsr0_1),
  (.read 0x10009050 .w32, .rdPAsr1_1),
  (.read 0x10009080 .w32, .rdPSadr_1)]

def writesP_1 : List (Operation × Instr) := [
  (.write 0x10009000 .w32 0xDEADBEEF, .wrPChcr_1 0xDEADBEEF),
  (.write 0x10009010 .w32 0xDEADBEEF, .wrPMadr_1 0xDEADBEEF),
  (.write 0x10009020 .w32 0xDEADBEEF, .wrPQwc_1 0xDEADBEEF),
  (.write 0x10009030 .w32 0xDEADBEEF, .wrPTadr_1 0xDEADBEEF),
  (.write 0x10009040 .w32 0xDEADBEEF, .wrPAsr0_1 0xDEADBEEF),
  (.write 0x10009050 .w32 0xDEADBEEF, .wrPAsr1_1 0xDEADBEEF),
  (.write 0x10009080 .w32 0xDEADBEEF, .wrPSadr_1 0xDEADBEEF)]

def readsP_2 : List (Operation × Instr) := [
  (.read 0x1000A000 .w32, .rdPChcr_2),
  (.read 0x1000A010 .w32, .rdPMadr_2),
  (.read 0x1000A020 .w32, .rdPQwc_2),
  (.read 0x1000A030 .w32, .rdPTadr_2),
  (.read 0x1000A040 .w32, .rdPAsr0_2),
  (.read 0x1000A050 .w32, .rdPAsr1_2),
  (.read 0x1000A080 .w32, .rdPSadr_2)]

def writesP_2 : List (Operation × Instr) := [
  (.write 0x1000A000 .w32 0xDEADBEEF, .wrPChcr_2 0xDEADBEEF),
  (.write 0x1000A010 .w32 0xDEADBEEF, .wrPMadr_2 0xDEADBEEF),
  (.write 0x1000A020 .w32 0xDEADBEEF, .wrPQwc_2 0xDEADBEEF),
  (.write 0x1000A030 .w32 0xDEADBEEF, .wrPTadr_2 0xDEADBEEF),
  (.write 0x1000A040 .w32 0xDEADBEEF, .wrPAsr0_2 0xDEADBEEF),
  (.write 0x1000A050 .w32 0xDEADBEEF, .wrPAsr1_2 0xDEADBEEF),
  (.write 0x1000A080 .w32 0xDEADBEEF, .wrPSadr_2 0xDEADBEEF)]

def readsP_3 : List (Operation × Instr) := [
  (.read 0x1000B000 .w32, .rdPChcr_3),
  (.read 0x1000B010 .w32, .rdPMadr_3),
  (.read 0x1000B020 .w32, .rdPQwc_3),
  (.read 0x1000B030 .w32, .rdPTadr_3),
  (.read 0x1000B040 .w32, .rdPAsr0_3),
  (.read 0x1000B050 .w32, .rdPAsr1_3),
  (.read 0x1000B080 .w32, .rdPSadr_3)]

def writesP_3 : List (Operation × Instr) := [
  (.write 0x1000B000 .w32 0xDEADBEEF, .wrPChcr_3 0xDEADBEEF),
  (.write 0x1000B010 .w32 0xDEADBEEF, .wrPMadr_3 0xDEADBEEF),
  (.write 0x1000B020 .w32 0xDEADBEEF, .wrPQwc_3 0xDEADBEEF),
  (.write 0x1000B030 .w32 0xDEADBEEF, .wrPTadr_3 0xDEADBEEF),
  (.write 0x1000B040 .w32 0xDEADBEEF, .wrPAsr0_3 0xDEADBEEF),
  (.write 0x1000B050 .w32 0xDEADBEEF, .wrPAsr1_3 0xDEADBEEF),
  (.write 0x1000B080 .w32 0xDEADBEEF, .wrPSadr_3 0xDEADBEEF)]

def readsP_4 : List (Operation × Instr) := [
  (.read 0x1000B400 .w32, .rdPChcr_4),
  (.read 0x1000B410 .w32, .rdPMadr_4),
  (.read 0x1000B420 .w32, .rdPQwc_4),
  (.read 0x1000B430 .w32, .rdPTadr_4),
  (.read 0x1000B440 .w32, .rdPAsr0_4),
  (.read 0x1000B450 .w32, .rdPAsr1_4),
  (.read 0x1000B480 .w32, .rdPSadr_4)]

def writesP_4 : List (Operation × Instr) := [
  (.write 0x1000B400 .w32 0xDEADBEEF, .wrPChcr_4 0xDEADBEEF),
  (.write 0x1000B410 .w32 0xDEADBEEF, .wrPMadr_4 0xDEADBEEF),
  (.write 0x1000B420 .w32 0xDEADBEEF, .wrPQwc_4 0xDEADBEEF),
  (.write 0x1000B430 .w32 0xDEADBEEF, .wrPTadr_4 0xDEADBEEF),
  (.write 0x1000B440 .w32 0xDEADBEEF, .wrPAsr0_4 0xDEADBEEF),
  (.write 0x1000B450 .w32 0xDEADBEEF, .wrPAsr1_4 0xDEADBEEF),
  (.write 0x1000B480 .w32 0xDEADBEEF, .wrPSadr_4 0xDEADBEEF)]

def readsP_5 : List (Operation × Instr) := [
  (.read 0x1000C000 .w32, .rdPChcr_5),
  (.read 0x1000C010 .w32, .rdPMadr_5),
  (.read 0x1000C020 .w32, .rdPQwc_5),
  (.read 0x1000C030 .w32, .rdPTadr_5),
  (.read 0x1000C040 .w32, .rdPAsr0_5),
  (.read 0x1000C050 .w32, .rdPAsr1_5),
  (.read 0x1000C080 .w32, .rdPSadr_5)]

def writesP_5 : List (Operation × Instr) := [
  (.write 0x1000C000 .w32 0xDEADBEEF, .wrPChcr_5 0xDEADBEEF),
  (.write 0x1000C010 .w32 0xDEADBEEF, .wrPMadr_5 0xDEADBEEF),
  (.write 0x1000C020 .w32 0xDEADBEEF, .wrPQwc_5 0xDEADBEEF),
  (.write 0x1000C030 .w32 0xDEADBEEF, .wrPTadr_5 0xDEADBEEF),
  (.write 0x1000C040 .w32 0xDEADBEEF, .wrPAsr0_5 0xDEADBEEF),
  (.write 0x1000C050 .w32 0xDEADBEEF, .wrPAsr1_5 0xDEADBEEF),
  (.write 0x1000C080 .w32 0xDEADBEEF, .wrPSadr_5 0xDEADBEEF)]

def readsP_6 : List (Operation × Instr) := [
  (.read 0x1000C400 .w32, .rdPChcr_6),
  (.read 0x1000C410 .w32, .rdPMadr_6),
  (.read 0x1000C420 .w32, .rdPQwc_6),
  (.read 0x1000C430 .w32, .rdPTadr_6),
  (.read 0x1000C440 .w32, .rdPAsr0_6),
  (.read 0x1000C450 .w32, .rdPAsr1_6),
  (.read 0x1000C480 .w32, .rdPSadr_6)]

def writesP_6 : List (Operation × Instr) := [
  (.write 0x1000C400 .w32 0xDEADBEEF, .wrPChcr_6 0xDEADBEEF),
  (.write 0x1000C410 .w32 0xDEADBEEF, .wrPMadr_6 0xDEADBEEF),
  (.write 0x1000C420 .w32 0xDEADBEEF, .wrPQwc_6 0xDEADBEEF),
  (.write 0x1000C430 .w32 0xDEADBEEF, .wrPTadr_6 0xDEADBEEF),
  (.write 0x1000C440 .w32 0xDEADBEEF, .wrPAsr0_6 0xDEADBEEF),
  (.write 0x1000C450 .w32 0xDEADBEEF, .wrPAsr1_6 0xDEADBEEF),
  (.write 0x1000C480 .w32 0xDEADBEEF, .wrPSadr_6 0xDEADBEEF)]

def readsP_7 : List (Operation × Instr) := [
  (.read 0x1000C800 .w32, .rdPChcr_7),
  (.read 0x1000C810 .w32, .rdPMadr_7),
  (.read 0x1000C820 .w32, .rdPQwc_7),
  (.read 0x1000C830 .w32, .rdPTadr_7),
  (.read 0x1000C840 .w32, .rdPAsr0_7),
  (.read 0x1000C850 .w32, .rdPAsr1_7),
  (.read 0x1000C880 .w32, .rdPSadr_7)]

def writesP_7 : List (Operation × Instr) := [
  (.write 0x1000C800 .w32 0xDEADBEEF, .wrPChcr_7 0xDEADBEEF),
  (.write 0x1000C810 .w32 0xDEADBEEF, .wrPMadr_7 0xDEADBEEF),
  (.write 0x1000C820 .w32 0xDEADBEEF, .wrPQwc_7 0xDEADBEEF),
  (.write 0x1000C830 .w32 0xDEADBEEF, .wrPTadr_7 0xDEADBEEF),
  (.write 0x1000C840 .w32 0xDEADBEEF, .wrPAsr0_7 0xDEADBEEF),
  (.write 0x1000C850 .w32 0xDEADBEEF, .wrPAsr1_7 0xDEADBEEF),
  (.write 0x1000C880 .w32 0xDEADBEEF, .wrPSadr_7 0xDEADBEEF)]

def readsP_8 : List (Operation × Instr) := [
  (.read 0x1000D000 .w32, .rdPChcr_8),
  (.read 0x1000D010 .w32, .rdPMadr_8),
  (.read 0x1000D020 .w32, .rdPQwc_8),
  (.read 0x1000D030 .w32, .rdPTadr_8),
  (.read 0x1000D040 .w32, .rdPAsr0_8),
  (.read 0x1000D050 .w32, .rdPAsr1_8),
  (.read 0x1000D080 .w32, .rdPSadr_8)]

def writesP_8 : List (Operation × Instr) := [
  (.write 0x1000D000 .w32 0xDEADBEEF, .wrPChcr_8 0xDEADBEEF),
  (.write 0x1000D010 .w32 0xDEADBEEF, .wrPMadr_8 0xDEADBEEF),
  (.write 0x1000D020 .w32 0xDEADBEEF, .wrPQwc_8 0xDEADBEEF),
  (.write 0x1000D030 .w32 0xDEADBEEF, .wrPTadr_8 0xDEADBEEF),
  (.write 0x1000D040 .w32 0xDEADBEEF, .wrPAsr0_8 0xDEADBEEF),
  (.write 0x1000D050 .w32 0xDEADBEEF, .wrPAsr1_8 0xDEADBEEF),
  (.write 0x1000D080 .w32 0xDEADBEEF, .wrPSadr_8 0xDEADBEEF)]

def readsP_9 : List (Operation × Instr) := [
  (.read 0x1000D400 .w32, .rdPChcr_9),
  (.read 0x1000D410 .w32, .rdPMadr_9),
  (.read 0x1000D420 .w32, .rdPQwc_9),
  (.read 0x1000D430 .w32, .rdPTadr_9),
  (.read 0x1000D440 .w32, .rdPAsr0_9),
  (.read 0x1000D450 .w32, .rdPAsr1_9),
  (.read 0x1000D480 .w32, .rdPSadr_9)]

def writesP_9 : List (Operation × Instr) := [
  (.write 0x1000D400 .w32 0xDEADBEEF, .wrPChcr_9 0xDEADBEEF),
  (.write 0x1000D410 .w32 0xDEADBEEF, .wrPMadr_9 0xDEADBEEF),
  (.write 0x1000D420 .w32 0xDEADBEEF, .wrPQwc_9 0xDEADBEEF),
  (.write 0x1000D430 .w32 0xDEADBEEF, .wrPTadr_9 0xDEADBEEF),
  (.write 0x1000D440 .w32 0xDEADBEEF, .wrPAsr0_9 0xDEADBEEF),
  (.write 0x1000D450 .w32 0xDEADBEEF, .wrPAsr1_9 0xDEADBEEF),
  (.write 0x1000D480 .w32 0xDEADBEEF, .wrPSadr_9 0xDEADBEEF)]

def readsPWide : List (Operation × Instr) := [
  (.read 0x1000E000 .w32, .rdPDCtrl),
  (.read 0x1000E010 .w32, .rdPDStat),
  (.read 0x1000E020 .w32, .rdPDPcr)]

def writesPWide : List (Operation × Instr) := [
  (.write 0x1000E000 .w32 0xDEADBEEF, .wrPDCtrl 0xDEADBEEF),
  (.write 0x1000E010 .w32 0xDEADBEEF, .wrPDStat 0xDEADBEEF),
  (.write 0x1000E020 .w32 0xDEADBEEF, .wrPDPcr 0xDEADBEEF)]

def readsS_0 : List (Operation × Instr) := [
  (.read 0x1F801080 .w32, .rdSMadr_0),
  (.read 0x1F801084 .w32, .rdSBcr_0_0 .w32),
  (.read 0x1F801084 .w16, .rdSBcr_0_0 .w16),
  (.read 0x1F801084 .w8, .rdSBcr_0_0 .w8),
  (.read 0x1F801085 .w8, .rdSBcr_0_1),
  (.read 0x1F801086 .w16, .rdSBcr_0_2 .w16),
  (.read 0x1F801086 .w8, .rdSBcr_0_2 .w8),
  (.read 0x1F801087 .w8, .rdSBcr_0_3),
  (.read 0x1F801088 .w32, .rdSChcr_0),
  (.read 0x1F80108C .w32, .rdSTadr_0)]

def writesS_0 : List (Operation × Instr) := [
  (.write 0x1F801080 .w32 0xDEADBEEF, .wrSMadr_0 0xDEADBEEF),
  (.write 0x1F801084 .w32 0xDEADBEEF, .wrSBcr_0_0 .w32 0xDEADBEEF),
  (.write 0x1F801084 .w16 0xA5C3, .wrSBcr_0_0 .w16 0xA5C3),
  (.write 0x1F801084 .w8 0xA5, .wrSBcr_0_0 .w8 0xA5),
  (.write 0x1F801085 .w8 0xA5, .wrSBcr_0_1 0xA5),
  (.write 0x1F801086 .w16 0xA5C3, .wrSBcr_0_2 .w16 0xA5C3),
  (.write 0x1F801086 .w8 0xA5, .wrSBcr_0_2 .w8 0xA5),
  (.write 0x1F801087 .w8 0xA5, .wrSBcr_0_3 0xA5),
  (.write 0x1F801088 .w32 0xDEADBEEF, .wrSChcr_0 0xDEADBEEF),
  (.write 0x1F80108C .w32 0xDEADBEEF, .wrSTadr_0 0xDEADBEEF)]

def readsS_1 : List (Operation × Instr) := [
  (.read 0x1F801090 .w32, .rdSMadr_1),
  (.read 0x1F801094 .w32, .rdSBcr_1_0 .w32),
  (.read 0x1F801094 .w16, .rdSBcr_1_0 .w16),
  (.read 0x1F801094 .w8, .rdSBcr_1_0 .w8),
  (.read 0x1F801095 .w8, .rdSBcr_1_1),
  (.read 0x1F801096 .w16, .rdSBcr_1_2 .w16),
  (.read 0x1F801096 .w8, .rdSBcr_1_2 .w8),
  (.read 0x1F801097 .w8, .rdSBcr_1_3),
  (.read 0x1F801098 .w32, .rdSChcr_1),
  (.read 0x1F80109C .w32, .rdSTadr_1)]

def writesS_1 : List (Operation × Instr) := [
  (.write 0x1F801090 .w32 0xDEADBEEF, .wrSMadr_1 0xDEADBEEF),
  (.write 0x1F801094 .w32 0xDEADBEEF, .wrSBcr_1_0 .w32 0xDEADBEEF),
  (.write 0x1F801094 .w16 0xA5C3, .wrSBcr_1_0 .w16 0xA5C3),
  (.write 0x1F801094 .w8 0xA5, .wrSBcr_1_0 .w8 0xA5),
  (.write 0x1F801095 .w8 0xA5, .wrSBcr_1_1 0xA5),
  (.write 0x1F801096 .w16 0xA5C3, .wrSBcr_1_2 .w16 0xA5C3),
  (.write 0x1F801096 .w8 0xA5, .wrSBcr_1_2 .w8 0xA5),
  (.write 0x1F801097 .w8 0xA5, .wrSBcr_1_3 0xA5),
  (.write 0x1F801098 .w32 0xDEADBEEF, .wrSChcr_1 0xDEADBEEF),
  (.write 0x1F80109C .w32 0xDEADBEEF, .wrSTadr_1 0xDEADBEEF)]

def readsS_2 : List (Operation × Instr) := [
  (.read 0x1F8010A0 .w32, .rdSMadr_2),
  (.read 0x1F8010A4 .w32, .rdSBcr_2_0 .w32),
  (.read 0x1F8010A4 .w16, .rdSBcr_2_0 .w16),
  (.read 0x1F8010A4 .w8, .rdSBcr_2_0 .w8),
  (.read 0x1F8010A5 .w8, .rdSBcr_2_1),
  (.read 0x1F8010A6 .w16, .rdSBcr_2_2 .w16),
  (.read 0x1F8010A6 .w8, .rdSBcr_2_2 .w8),
  (.read 0x1F8010A7 .w8, .rdSBcr_2_3),
  (.read 0x1F8010A8 .w32, .rdSChcr_2),
  (.read 0x1F8010AC .w32, .rdSTadr_2)]

def writesS_2 : List (Operation × Instr) := [
  (.write 0x1F8010A0 .w32 0xDEADBEEF, .wrSMadr_2 0xDEADBEEF),
  (.write 0x1F8010A4 .w32 0xDEADBEEF, .wrSBcr_2_0 .w32 0xDEADBEEF),
  (.write 0x1F8010A4 .w16 0xA5C3, .wrSBcr_2_0 .w16 0xA5C3),
  (.write 0x1F8010A4 .w8 0xA5, .wrSBcr_2_0 .w8 0xA5),
  (.write 0x1F8010A5 .w8 0xA5, .wrSBcr_2_1 0xA5),
  (.write 0x1F8010A6 .w16 0xA5C3, .wrSBcr_2_2 .w16 0xA5C3),
  (.write 0x1F8010A6 .w8 0xA5, .wrSBcr_2_2 .w8 0xA5),
  (.write 0x1F8010A7 .w8 0xA5, .wrSBcr_2_3 0xA5),
  (.write 0x1F8010A8 .w32 0xDEADBEEF, .wrSChcr_2 0xDEADBEEF),
  (.write 0x1F8010AC .w32 0xDEADBEEF, .wrSTadr_2 0xDEADBEEF)]

def readsS_3 : List (Operation × Instr) := [
  (.read 0x1F8010B0 .w32, .rdSMadr_3),
  (.read 0x1F8010B4 .w32, .rdSBcr_3_0 .w32),
  (.read 0x1F8010B4 .w16, .rdSBcr_3_0 .w16),
  (.read 0x1F8010B4 .w8, .rdSBcr_3_0 .w8),
  (.read 0x1F8010B5 .w8, .rdSBcr_3_1),
  (.read 0x1F8010B6 .w16, .rdSBcr_3_2 .w16),
  (.read 0x1F8010B6 .w8, .rdSBcr_3_2 .w8),
  (.read 0x1F8010B7 .w8, .rdSBcr_3_3),
  (.read 0x1F8010B8 .w32, .rdSChcr_3),
  (.read 0x1F8010BC .w32, .rdSTadr_3)]

def writesS_3 : List (Operation × Instr) := [
  (.write 0x1F8010B0 .w32 0xDEADBEEF, .wrSMadr_3 0xDEADBEEF),
  (.write 0x1F8010B4 .w32 0xDEADBEEF, .wrSBcr_3_0 .w32 0xDEADBEEF),
  (.write 0x1F8010B4 .w16 0xA5C3, .wrSBcr_3_0 .w16 0xA5C3),
  (.write 0x1F8010B4 .w8 0xA5, .wrSBcr_3_0 .w8 0xA5),
  (.write 0x1F8010B5 .w8 0xA5, .wrSBcr_3_1 0xA5),
  (.write 0x1F8010B6 .w16 0xA5C3, .wrSBcr_3_2 .w16 0xA5C3),
  (.write 0x1F8010B6 .w8 0xA5, .wrSBcr_3_2 .w8 0xA5),
  (.write 0x1F8010B7 .w8 0xA5, .wrSBcr_3_3 0xA5),
  (.write 0x1F8010B8 .w32 0xDEADBEEF, .wrSChcr_3 0xDEADBEEF),
  (.write 0x1F8010BC .w32 0xDEADBEEF, .wrSTadr_3 0xDEADBEEF)]

def readsS_4 : List (Operation × Instr) := [
  (.read 0x1F8010C0 .w32, .rdSMadr_4),
  (.read 0x1F8010C4 .w32, .rdSBcr_4_0 .w32),
  (.read 0x1F8010C4 .w16, .rdSBcr_4_0 .w16),
  (.read 0x1F8010C4 .w8, .rdSBcr_4_0 .w8),
  (.read 0x1F8010C5 .w8, .rdSBcr_4_1),
  (.read 0x1F8010C6 .w16, .rdSBcr_4_2 .w16),
  (.read 0x1F8010C6 .w8, .rdSBcr_4_2 .w8),
  (.read 0x1F8010C7 .w8, .rdSBcr_4_3),
  (.read 0x1F8010C8 .w32, .rdSChcr_4),
  (.read 0x1F8010CC .w32, .rdSTadr_4)]

def writesS_4 : List (Operation × Instr) := [
  (.write 0x1F8010C0 .w32 0xDEADBEEF, .wrSMadr_4 0xDEADBEEF),
  (.write 0x1F8010C4 .w32 0xDEADBEEF, .wrSBcr_4_0 .w32 0xDEADBEEF),
  (.write 0x1F8010C4 .w16 0xA5C3, .wrSBcr_4_0 .w16 0xA5C3),
  (.write 0x1F8010C4 .w8 0xA5, .wrSBcr_4_0 .w8 0xA5),
  (.write 0x1F8010C5 .w8 0xA5, .wrSBcr_4_1 0xA5),
  (.write 0x1F8010C6 .w16 0xA5C3, .wrSBcr_4_2 .w16 0xA5C3),
  (.write 0x1F8010C6 .w8 0xA5, .wrSBcr_4_2 .w8 0xA5),
  (.write 0x1F8010C7 .w8 0xA5, .wrSBcr_4_3 0xA5),
  (.write 0x1F8010C8 .w32 0xDEADBEEF, .wrSChcr_4 0xDEADBEEF),
  (.write 0x1F8010CC .w32 0xDEADBEEF, .wrSTadr_4 0xDEADBEEF)]

def readsS_5 : List (Operation × Instr) := [
  (.read 0x1F8010D0 .w32, .rdSMadr_5),
  (.read 0x1F8010D4 .w32, .rdSBcr_5_0 .w32),
  (.read 0x1F8010D4 .w16, .rdSBcr_5_0 .w16),
  (.read 0x1F8010D4 .w8, .rdSBcr_5_0 .w8),
  (.read 0x1F8010D5 .w8, .rdSBcr_5_1),
  (.read 0x1F8010D6 .w16, .rdSBcr_5_2 .w16),
  (.read 0x1F8010D6 .w8, .rdSBcr_5_2 .w8),
  (.read 0x1F8010D7 .w8, .rdSBcr_5_3),
  (.read 0x1F8010D8 .w32, .rdSChcr_5),
  (.read 0x1F8010DC .w32, .rdSTadr_5)]

def writesS_5 : List (Operation × Instr) := [
  (.write 0x1F8010D0 .w32 0xDEADBEEF, .wrSMadr_5 0xDEADBEEF),
  (.write 0x1F8010D4 .w32 0xDEADBEEF, .wrSBcr_5_0 .w32 0xDEADBEEF),
  (.write 0x1F8010D4 .w16 0xA5C3, .wrSBcr_5_0 .w16 0xA5C3),
  (.write 0x1F8010D4 .w8 0xA5, .wrSBcr_5_0 .w8 0xA5),
  (.write 0x1F8010D5 .w8 0xA5, .wrSBcr_5_1 0xA5),
  (.write 0x1F8010D6 .w16 0xA5C3, .wrSBcr_5_2 .w16 0xA5C3),
  (.write 0x1F8010D6 .w8 0xA5, .wrSBcr_5_2 .w8 0xA5),
  (.write 0x1F8010D7 .w8 0xA5, .wrSBcr_5_3 0xA5),
  (.write 0x1F8010D8 .w32 0xDEADBEEF, .wrSChcr_5 0xDEADBEEF),
  (.write 0x1F8010DC .w32 0xDEADBEEF, .wrSTadr_5 0xDEADBEEF)]

def readsS_6 : List (Operation × Instr) := [
  (.read 0x1F8010E0 .w32, .rdSMadr_6),
  (.read 0x1F8010E4 .w32, .rdSBcr_6_0 .w32),
  (.read 0x1F8010E4 .w16, .rdSBcr_6_0 .w16),
  (.read 0x1F8010E4 .w8, .rdSBcr_6_0 .w8),
  (.read 0x1F8010E5 .w8, .rdSBcr_6_1),
  (.read 0x1F8010E6 .w16, .rdSBcr_6_2 .w16),
  (.read 0x1F8010E6 .w8, .rdSBcr_6_2 .w8),
  (.read 0x1F8010E7 .w8, .rdSBcr_6_3),
  (.read 0x1F8010E8 .w32, .rdSChcr_6),
  (.read 0x1F8010EC .w32, .rdSTadr_6)]

def writesS_6 : List (Operation × Instr) := [
  (.write 0x1F8010E0 .w32 0xDEADBEEF, .wrSMadr_6 0xDEADBEEF),
  (.write 0x1F8010E4 .w32 0xDEADBEEF, .wrSBcr_6_0 .w32 0xDEADBEEF),
  (.write 0x1F8010E4 .w16 0xA5C3, .wrSBcr_6_0 .w16 0xA5C3),
  (.write 0x1F8010E4 .w8 0xA5, .wrSBcr_6_0 .w8 0xA5),
  (.write 0x1F8010E5 .w8 0xA5, .wrSBcr_6_1 0xA5),
  (.write 0x1F8010E6 .w16 0xA5C3, .wrSBcr_6_2 .w16 0xA5C3),
  (.write 0x1F8010E6 .w8 0xA5, .wrSBcr_6_2 .w8 0xA5),
  (.write 0x1F8010E7 .w8 0xA5, .wrSBcr_6_3 0xA5),
  (.write 0x1F8010E8 .w32 0xDEADBEEF, .wrSChcr_6 0xDEADBEEF),
  (.write 0x1F8010EC .w32 0xDEADBEEF, .wrSTadr_6 0xDEADBEEF)]

def readsS_7 : List (Operation × Instr) := [
  (.read 0x1F801500 .w32, .rdSMadr_7),
  (.read 0x1F801504 .w32, .rdSBcr_7_0 .w32),
  (.read 0x1F801504 .w16, .rdSBcr_7_0 .w16),
  (.read 0x1F801504 .w8, .rdSBcr_7_0 .w8),
  (.read 0x1F801505 .w8, .rdSBcr_7_1),
  (.read 0x1F801506 .w16, .rdSBcr_7_2 .w16),
  (.read 0x1F801506 .w8, .rdSBcr_7_2 .w8),
  (.read 0x1F801507 .w8, .rdSBcr_7_3),
  (.read 0x1F801508 .w32, .rdSChcr_7),
  (.read 0x1F80150C .w32, .rdSTadr_7)]

def writesS_7 : List (Operation × Instr) := [
  (.write 0x1F801500 .w32 0xDEADBEEF, .wrSMadr_7 0xDEADBEEF),
  (.write 0x1F801504 .w32 0xDEADBEEF, .wrSBcr_7_0 .w32 0xDEADBEEF),
  (.write 0x1F801504 .w16 0xA5C3, .wrSBcr_7_0 .w16 0xA5C3),
  (.write 0x1F801504 .w8 0xA5, .wrSBcr_7_0 .w8 0xA5),
  (.write 0x1F801505 .w8 0xA5, .wrSBcr_7_1 0xA5),
  (.write 0x1F801506 .w16 0xA5C3, .wrSBcr_7_2 .w16 0xA5C3),
  (.write 0x1F801506 .w8 0xA5, .wrSBcr_7_2 .w8 0xA5),
  (.write 0x1F801507 .w8 0xA5, .wrSBcr_7_3 0xA5),
  (.write 0x1F801508 .w32 0xDEADBEEF, .wrSChcr_7 0xDEADBEEF),
  (.write 0x1F80150C .w32 0xDEADBEEF, .wrSTadr_7 0xDEADBEEF)]

def readsS_8 : List (Operation × Instr) := [
  (.read 0x1F801510 .w32, .rdSMadr_8),
  (.read 0x1F801514 .w32, .rdSBcr_8_0 .w32),
  (.read 0x1F801514 .w16, .rdSBcr_8_0 .w16),
  (.read 0x1F801514 .w8, .rdSBcr_8_0 .w8),
  (.read 0x1F801515 .w8, .rdSBcr_8_1),
  (.read 0x1F801516 .w16, .rdSBcr_8_2 .w16),
  (.read 0x1F801516 .w8, .rdSBcr_8_2 .w8),
  (.read 0x1F801517 .w8, .rdSBcr_8_3),
  (.read 0x1F801518 .w32, .rdSChcr_8),
  (.read 0x1F80151C .w32, .rdSTadr_8)]

def writesS_8 : List (Operation × Instr) := [
  (.write 0x1F801510 .w32 0xDEADBEEF, .wrSMadr_8 0xDEADBEEF),
  (.write 0x1F801514 .w32 0xDEADBEEF, .wrSBcr_8_0 .w32 0xDEADBEEF),
  (.write 0x1F801514 .w16 0xA5C3, .wrSBcr_8_0 .w16 0xA5C3),
  (.write 0x1F801514 .w8 0xA5, .wrSBcr_8_0 .w8 0xA5),
  (.write 0x1F801515 .w8 0xA5, .wrSBcr_8_1 0xA5),
  (.write 0x1F801516 .w16 0xA5C3, .wrSBcr_8_2 .w16 0xA5C3),
  (.write 0x1F801516 .w8 0xA5, .wrSBcr_8_2 .w8 0xA5),
  (.write 0x1F801517 .w8 0xA5, .wrSBcr_8_3 0xA5),
  (.write 0x1F801518 .w32 0xDEADBEEF, .wrSChcr_8 0xDEADBEEF),
  (.write 0x1F80151C .w32 0xDEADBEEF, .wrSTadr_8 0xDEADBEEF)]

def readsS_9 : List (Operation × Instr) := [
  (.read 0x1F801520 .w32, .rdSMadr_9),
  (.read 0x1F801524 .w32, .rdSBcr_9_0 .w32),
  (.read 0x1F801524 .w16, .rdSBcr_9_0 .w16),
  (.read 0x1F801524 .w8, .rdSBcr_9_0 .w8),
  (.read 0x1F801525 .w8, .rdSBcr_9_1),
  (.read 0x1F801526 .w16, .rdSBcr_9_2 .w16),
  (.read 0x1F801526 .w8, .rdSBcr_9_2 .w8),
  (.read 0x1F801527 .w8, .rdSBcr_9_3),
  (.read 0x1F801528 .w32, .rdSChcr_9),
  (.read 0x1F80152C .w32, .rdSTadr_9)]

def writesS_9 : List (Operation × Instr) := [
  (.write 0x1F801520 .w32 0xDEADBEEF, .wrSMadr_9 0xDEADBEEF),
  (.write 0x1F801524 .w32 0xDEADBEEF, .wrSBcr_9_0 .w32 0xDEADBEEF),
  (.write 0x1F801524 .w16 0xA5C3, .wrSBcr_9_0 .w16 0xA5C3),
  (.write 0x1F801524 .w8 0xA5, .wrSBcr_9_0 .w8 0xA5),
  (.write 0x1F801525 .w8 0xA5, .wrSBcr_9_1 0xA5),
  (.write 0x1F801526 .w16 0xA5C3, .wrSBcr_9_2 .w16 0xA5C3),
  (.write 0x1F801526 .w8 0xA5, .wrSBcr_9_2 .w8 0xA5),
  (.write 0x1F801527 .w8 0xA5, .wrSBcr_9_3 0xA5),
  (.write 0x1F801528 .w32 0xDEADBEEF, .wrSChcr_9 0xDEADBEEF),
  (.write 0x1F80152C .w32 0xDEADBEEF, .wrSTadr_9 0xDEADBEEF)]

def readsS_10 : List (Operation × Instr) := [
  (.read 0x1F801530 .w32, .rdSMadr_10),
  (.read 0x1F801534 .w32, .rdSBcr_10_0 .w32),
  (.read 0x1F801534 .w16, .rdSBcr_10_0 .w16),
  (.read 0x1F801534 .w8, .rdSBcr_10_0 .w8),
  (.read 0x1F801535 .w8, .rdSBcr_10_1),
  (.read 0x1F801536 .w16, .rdSBcr_10_2 .w16),
  (.read 0x1F801536 .w8, .rdSBcr_10_2 .w8),
  (.read 0x1F801537 .w8, .rdSBcr_10_3),
  (.read 0x1F801538 .w32, .rdSChcr_10),
  (.read 0x1F80153C .w32, .rdSTadr_10)]

def writesS_10 : List (Operation × Instr) := [
  (.write 0x1F801530 .w32 0xDEADBEEF, .wrSMadr_10 0xDEADBEEF),
  (.write 0x1F801534 .w32 0xDEADBEEF, .wrSBcr_10_0 .w32 0xDEADBEEF),
  (.write 0x1F801534 .w16 0xA5C3, .wrSBcr_10_0 .w16 0xA5C3),
  (.write 0x1F801534 .w8 0xA5, .wrSBcr_10_0 .w8 0xA5),
  (.write 0x1F801535 .w8 0xA5, .wrSBcr_10_1 0xA5),
  (.write 0x1F801536 .w16 0xA5C3, .wrSBcr_10_2 .w16 0xA5C3),
  (.write 0x1F801536 .w8 0xA5, .wrSBcr_10_2 .w8 0xA5),
  (.write 0x1F801537 .w8 0xA5, .wrSBcr_10_3 0xA5),
  (.write 0x1F801538 .w32 0xDEADBEEF, .wrSChcr_10 0xDEADBEEF),
  (.write 0x1F80153C .w32 0xDEADBEEF, .wrSTadr_10 0xDEADBEEF)]

def readsS_11 : List (Operation × Instr) := [
  (.read 0x1F801540 .w32, .rdSMadr_11),
  (.read 0x1F801544 .w32, .rdSBcr_11_0 .w32),
  (.read 0x1F801544 .w16, .rdSBcr_11_0 .w16),
  (.read 0x1F801544 .w8, .rdSBcr_11_0 .w8),
  (.read 0x1F801545 .w8, .rdSBcr_11_1),
  (.read 0x1F801546 .w16, .rdSBcr_11_2 .w16),
  (.read 0x1F801546 .w8, .rdSBcr_11_2 .w8),
  (.read 0x1F801547 .w8, .rdSBcr_11_3),
  (.read 0x1F801548 .w32, .rdSChcr_11),
  (.read 0x1F80154C .w32, .rdSTadr_11)]

def writesS_11 : List (Operation × Instr) := [
  (.write 0x1F801540 .w32 0xDEADBEEF, .wrSMadr_11 0xDEADBEEF),
  (.write 0x1F801544 .w32 0xDEADBEEF, .wrSBcr_11_0 .w32 0xDEADBEEF),
  (.write 0x1F801544 .w16 0xA5C3, .wrSBcr_11_0 .w16 0xA5C3),
  (.write 0x1F801544 .w8 0xA5, .wrSBcr_11_0 .w8 0xA5),
  (.write 0x1F801545 .w8 0xA5, .wrSBcr_11_1 0xA5),
  (.write 0x1F801546 .w16 0xA5C3, .wrSBcr_11_2 .w16 0xA5C3),
  (.write 0x1F801546 .w8 0xA5, .wrSBcr_11_2 .w8 0xA5),
  (.write 0x1F801547 .w8 0xA5, .wrSBcr_11_3 0xA5),
  (.write 0x1F801548 .w32 0xDEADBEEF, .wrSChcr_11 0xDEADBEEF),
  (.write 0x1F80154C .w32 0xDEADBEEF, .wrSTadr_11 0xDEADBEEF)]

def readsS_12 : List (Operation × Instr) := [
  (.read 0x1F801550 .w32, .rdSMadr_12),
  (.read 0x1F801554 .w32, .rdSBcr_12_0 .w32),
  (.read 0x1F801554 .w16, .rdSBcr_12_0 .w16),
  (.read 0x1F801554 .w8, .rdSBcr_12_0 .w8),
  (.read 0x1F801555 .w8, .rdSBcr_12_1),
  (.read 0x1F801556 .w16, .rdSBcr_12_2 .w16),
  (.read 0x1F801556 .w8, .rdSBcr_12_2 .w8),
  (.read 0x1F801557 .w8, .rdSBcr_12_3),
  (.read 0x1F801558 .w32, .rdSChcr_12),
  (.read 0x1F80155C .w32, .rdSTadr_12)]

def writesS_12 : List (Operation × Instr) := [
  (.write 0x1F801550 .w32 0xDEADBEEF, .wrSMadr_12 0xDEADBEEF),
  (.write 0x1F801554 .w32 0xDEADBEEF, .wrSBcr_12_0 .w32 0xDEADBEEF),
  (.write 0x1F801554 .w16 0xA5C3, .wrSBcr_12_0 .w16 0xA5C3),
  (.write 0x1F801554 .w8 0xA5, .wrSBcr_12_0 .w8 0xA5),
  (.write 0x1F801555 .w8 0xA5, .wrSBcr_12_1 0xA5),
  (.write 0x1F801556 .w16 0xA5C3, .wrSBcr_12_2 .w16 0xA5C3),
  (.write 0x1F801556 .w8 0xA5, .wrSBcr_12_2 .w8 0xA5),
  (.write 0x1F801557 .w8 0xA5, .wrSBcr_12_3 0xA5),
  (.write 0x1F801558 .w32 0xDEADBEEF, .wrSChcr_12 0xDEADBEEF),
  (.write 0x1F80155C .w32 0xDEADBEEF, .wrSTadr_12 0xDEADBEEF)]

def readsSWide : List (Operation × Instr) := [
  (.read 0x1F8010F0 .w32, .rdSDpcr),
  (.read 0x1F8010F4 .w32, .rdSDicr),
  (.read 0x1F801570 .w32, .rdSDpcr2),
  (.read 0x1F801574 .w32, .rdSDicr2),
  (.read 0x1F801578 .w32, .rdSDmacen),
  (.read 0x1F80157C .w32, .rdSDmacinten)]

def writesSWide : List (Operation × Instr) := [
  (.write 0x1F8010F0 .w32 0xDEADBEEF, .wrSDpcr 0xDEADBEEF),
  (.write 0x1F8010F4 .w32 0xDEADBEEF, .wrSDicr 0xDEADBEEF),
  (.write 0x1F801570 .w32 0xDEADBEEF, .wrSDpcr2 0xDEADBEEF),
  (.write 0x1F801574 .w32 0xDEADBEEF, .wrSDicr2 0xDEADBEEF),
  (.write 0x1F801578 .w32 0xDEADBEEF, .wrSDmacen 0xDEADBEEF),
  (.write 0x1F80157C .w32 0xDEADBEEF, .wrSDmacinten 0xDEADBEEF)]

theorem test_decode_reads_of_engine_P :
    (readsP_0 ++ readsP_1 ++ readsP_2 ++ readsP_3 ++ readsP_4 ++ readsP_5 ++ readsP_6 ++ readsP_7 ++ readsP_8 ++ readsP_9 ++ readsPWide).all decodesTo = true := by decide +kernel

theorem test_decode_writes_of_engine_P :
    (writesP_0 ++ writesP_1 ++ writesP_2 ++ writesP_3 ++ writesP_4 ++ writesP_5 ++ writesP_6 ++ writesP_7 ++ writesP_8 ++ writesP_9 ++ writesPWide).all decodesTo = true := by decide +kernel

theorem test_decode_reads_of_engine_S :
    (readsS_0 ++ readsS_1 ++ readsS_2 ++ readsS_3 ++ readsS_4 ++ readsS_5 ++ readsS_6 ++ readsS_7 ++ readsS_8 ++ readsS_9 ++ readsS_10 ++ readsS_11 ++ readsS_12 ++ readsSWide).all decodesTo = true := by decide +kernel

theorem test_decode_writes_of_engine_S :
    (writesS_0 ++ writesS_1 ++ writesS_2 ++ writesS_3 ++ writesS_4 ++ writesS_5 ++ writesS_6 ++ writesS_7 ++ writesS_8 ++ writesS_9 ++ writesS_10 ++ writesS_11 ++ writesS_12 ++ writesSWide).all decodesTo = true := by decide +kernel

theorem test_decode_ports :
    [((.serviceP : Operation), (.serviceP : Instr)), (.serviceS, .serviceS), (.setRequestP 9 true, .setRequestP 9 true),
      (.setRequestS 12 false, .setRequestS 12 false), (.resetP, .resetP), (.resetS, .resetS),
      (.cpcond, .cpcond)].all decodesTo = true := by decide +kernel

/-- The source IDs (R158): {payload, ADDR, header}; the header holds IRQ 1, the ID, PCE 3, bits 25:16 and QWC. -/
theorem test_decode_source_tags :
    let f : PTag := ⟨0x8001, 0x201, 3, true, 0x12345678, 0x0123456789ABCDEF⟩
    decodePTag .source 4 0x0123456789ABCDEF123456788E018001 = .pSrcTagRefe 4 f ∧
    decodePTag .source 4 0x0123456789ABCDEF123456789E018001 = .pSrcTagCnt 4 f ∧
    decodePTag .source 4 0x0123456789ABCDEF12345678AE018001 = .pSrcTagNext 4 f ∧
    decodePTag .source 4 0x0123456789ABCDEF12345678BE018001 = .pSrcTagRef 4 f ∧
    decodePTag .source 4 0x0123456789ABCDEF12345678CE018001 = .pSrcTagRefs 4 f ∧
    decodePTag .source 4 0x0123456789ABCDEF12345678DE018001 = .pSrcTagCall 4 f ∧
    decodePTag .source 4 0x0123456789ABCDEF12345678EE018001 = .pSrcTagRet 4 f ∧
    decodePTag .source 4 0x0123456789ABCDEF12345678FE018001 = .pSrcTagEnd 4 f := by decide +kernel

/-- The destination IDs (R159), with IRQ 0. -/
theorem test_decode_destination_tags :
    let f : PTag := ⟨0x0002, 0, 0, false, 0x00500000, 0⟩
    decodePTag .destination 8 0x0050000000000002 = .pDstTagCnts 8 f ∧
    decodePTag .destination 8 0x0050000010000002 = .pDstTagCnt 8 f ∧
    decodePTag .destination 8 0x0050000020000002 = .pDstTagId2 8 f ∧
    decodePTag .destination 8 0x0050000030000002 = .pDstTagId3 8 f ∧
    decodePTag .destination 8 0x0050000040000002 = .pDstTagId4 8 f ∧
    decodePTag .destination 8 0x0050000050000002 = .pDstTagId5 8 f ∧
    decodePTag .destination 8 0x0050000060000002 = .pDstTagId6 8 f ∧
    decodePTag .destination 8 0x0050000070000002 = .pDstTagEnd 8 f := by decide +kernel

/-- The engine S tag (R160): ERT bit 31, IRQ bit 30, ignored 29:24, ADDR 23:0, COUNT. -/
theorem test_decode_sTag :
    decodeSTag 12 0xBF012345 0x80000004 = .sTag 12 ⟨0x012345, 0x3F, false, true, 0x80000004⟩ ∧
      decodeSTag 9 0x40002000 0 = .sTag 9 ⟨0x002000, 0, true, false, 0⟩ := by decide

/-- The host's table words: a read, a byte lane, a source tag, an engine S tag, a request; and a step from reset runs it. -/
theorem test_table_words :
    decodeTableWord 32 0x1000A010 = some .rdPMadr_2 ∧ decodeTableWord 32 0x1F801087 = some .rdSBcr_0_3 ∧
      decodeTableWord 32 0x70000000 = some (.pSrcTagEnd 0 ⟨0, 0, 0, false, 0, 0⟩) ∧
      decodeTableWord 0 0 = some (.sTag 2 ⟨0, 0, false, false, 0⟩) ∧
      decodeTableWord 16 12 = some (.setRequestS 12 false) ∧ decodeTableWord 32 0x1000A004 = none := by
  refine ⟨?_, ?_, ?_, ?_, ?_, ?_⟩ <;> decide +kernel

theorem test_placed_tag_is_run :
    ((nextOf (step (State.withFetchWord s0 32 0x70000000))).map fun t => (t.response, regsP 0 t)) =
      some (.progress 0, 0x10, 0, 0, 0x70000004) ∧
    ((nextOf (step (State.withFetchWord s0 0 0))).map fun t => (t.response, regsS 2 t)) =
      some (.progress 2, 0, 8, 0, 0x01000600) := by
  refine ⟨?_, ?_⟩ <;> decide +kernel

/-! ## The tag decoder (95_test_vectors.md 2.2) -/

/-- TV-T1 to TV-T17: TADR0, t[63:0], TIE, then MADR, TADR, QWC, ended and TAG; nothing where the tag is fatal. -/
theorem test_source_tag_vectors :
    [((0x00001000 : Word), (0x0020000000000003 : Quad), false, some ((⟨0x00200000, 0x00001010, 3, true⟩ : TagResult), (0x0000 : BitVec 16))),
     (0x00001000, 0x0000500010000002, false, some (⟨0x00001010, 0x00001030, 2, false⟩, 0x1000)),
     (0x00001000, 0x0000000090000002, false, some (⟨0x00001010, 0x00001030, 2, false⟩, 0x9000)),
     (0x00001000, 0x0000000090000002, true, some (⟨0x00001010, 0x00001030, 2, true⟩, 0x9000)),
     (0x00001000, 0x0000300020000001, false, some (⟨0x00001010, 0x00003000, 1, false⟩, 0x2000)),
     (0x00001000, 0x0040000030000004, false, some (⟨0x00400000, 0x00001010, 4, false⟩, 0x3000)),
     (0x00001000, 0x00400000C0000004, true, some (⟨0x00400000, 0x00001010, 4, true⟩, 0xC000)),
     (0x00001000, 0x0000000050000000, false, none),
     (0x00001000, 0x0000000060000000, false, none),
     (0x00001000, 0x0000000070000000, false, some (⟨0x00001010, 0x00001000, 0, true⟩, 0x7000)),
     (0x00001000, 0x0000000070000003, false, some (⟨0x00001010, 0x00001000, 3, true⟩, 0x7000)),
     (0xFFFFFFF0, 0x0000000010000001, false, some (⟨0x00000000, 0x00000010, 1, false⟩, 0x1000)),
     (0xFFFFFFF0, 0x0000700000000001, false, some (⟨0x00007000, 0x00000000, 1, true⟩, 0x0000)),
     (0x00001000, 0x0000000010000000, false, some (⟨0x00001010, 0x00001010, 0, false⟩, 0x1000)),
     (0x00001000, 0x000000001C000001, false, some (⟨0x00001010, 0x00001020, 1, false⟩, 0x1C00)),
     (0x00001004, 0x0000000010000001, false, some (⟨0x00001014, 0x00001024, 1, false⟩, 0x1000)),
     (0x00001000, 0x000000001000FFFF, false, some (⟨0x00001010, 0x00101000, 0xFFFF, false⟩, 0x1000))].all
      (fun (tadr, t, tie, r) => (decodeTag .source tadr tie t).map (·, tagCache t) == r) = true := by decide +kernel

/-- TV-T20 to TV-T26, at TADR 0x1000. -/
theorem test_destination_tag_vectors :
    [((0x0050000010000002 : Quad), false, some ((⟨0x00500000, 0x1000, 2, false⟩ : TagResult), (0x1000 : BitVec 16))),
     (0x0050000080000001, true, some (⟨0x00500000, 0x1000, 1, true⟩, 0x8000)),
     (0x0050000080000001, false, some (⟨0x00500000, 0x1000, 1, false⟩, 0x8000)),
     (0x0060000070000003, false, some (⟨0x00600000, 0x1000, 3, true⟩, 0x7000)),
     (0x0000000020000001, false, none),
     (0x0000000030000001, false, none),
     (0x0000000060000000, false, none)].all
      (fun (t, tie, r) => (decodeTag .destination 0x1000 tie t).map (·, tagCache t) == r) = true := by decide +kernel

/-- Channel 9 of engine S after the service that decodes a tag in memory. -/
def tagAfterS (tadr : AddrS) (w0 w1 : Word) : Option ((AddrS × AddrS × Word × Word) × Bool × Bool × BitVec 13) :=
  seen (((sState 9 { SChannel.reset true with chcr := 0x01000601, tadr := tadr }).wordAt (busAddrS tadr).toNat w0).wordAt
      (busAddrS (tadr + 4)).toNat w1)
    .serviceS fun t => (regsS 9 t, (t.sch 9).chainEnded, (t.sch 9).tagIrq, t.engS.tip)

/-- TV-T30 to TV-T35: MADR, TADR, `remaining`, CHCR, tagIrq and TIP after the service that decodes a tag in memory. -/
theorem test_engine_S_tag_vectors :
    tagAfterS 0x002000 0x80012340 4 = some ((0x012340, 0x002008, 4, 0x01000601), true, false, 0) ∧
    tagAfterS 0x002000 0x40002000 0 = some ((0x002000, 0x002008, 0, 0x00000601), false, false, 0x200) ∧
    tagAfterS 0x002000 0x3F001000 2 = some ((0x001000, 0x002008, 2, 0x01000601), false, false, 0) ∧
    tagAfterS 0xFFFFF8 0x00004000 1 = some ((0x004000, 0x000000, 1, 0x01000601), false, false, 0) ∧
    tagAfterS 0xFFFFFC 0x00004000 1 = some ((0x004000, 0x000004, 1, 0x01000601), false, false, 0) ∧
    tagAfterS 0x002002 0x00004000 1 = some ((0x004000, 0x00200A, 1, 0x01000601), false, false, 0) := by
  refine ⟨?_, ?_, ?_, ?_, ?_, ?_⟩ <;> decide +kernel

/-! ## The register file (95_test_vectors.md 2.1) -/

/-- TV-R1 to TV-R4 and TV-R8, TV-R9: what engine P registers hold after a write. -/
theorem test_writes_of_engine_P :
    (seen s0 (.write 0x1000A000 .w32 0xFFFFFFFF) fun t => (t.pch 2).chcr) = some 0xFFFF01FD ∧
    (seen s0 (.write 0x1000A020 .w32 0x00012345) fun t => (t.pch 2).qwc) = some 0x2345 ∧
    (seen s0 (.write 0x1000D080 .w32 0xFFFFFFFF) fun t => (t.pch 8).sadr) = some 0x3FFF ∧
    (seen s0 (.write 0x10008010 .w32 0x0000100F) fun t => (t.pch 0).madr) = some 0x100F ∧
    (seen s0 (.write 0x1000E010 .w32 0xFC00FC00) fun t => (t.engP.cis, t.engP.cim)) = some (0, 0) ∧
    (seen s0 (.write 0x1000E020 .w32 3) fun t => t.engP.dPcr) = some 3 := by
  refine ⟨?_, ?_, ?_, ?_, ?_, ?_⟩ <;> decide +kernel

/-- A channel in the last segment of a chain. -/
def held : State := pState 2 { px with chcr := 0x105, hasTag := true, chainEnded := true }

/-- TV-R18 and TV-R19: stopping keeps the hidden state, and so does writing STR = 1 to a started channel. -/
theorem test_writes_of_P_chcr :
    (seen held (.write 0x1000A000 .w32 1) fun t => ((t.pch 2).chcr, (t.pch 2).hasTag, (t.pch 2).qwc)) =
      some (1, true, 1) ∧
    (seen held (.write 0x1000A000 .w32 0x101) fun t => ((t.pch 2).chcr, (t.pch 2).hasTag, (t.pch 2).chainEnded)) =
      some (0x101, true, true) ∧
    (seen (pState 2 { px with chcr := 1, hasTag := true, chainEnded := true }) (.write 0x1000A000 .w32 0x101)
      fun t => ((t.pch 2).hasTag, (t.pch 2).chainEnded)) = some (false, false) := by
  refine ⟨?_, ?_, ?_⟩ <;> decide +kernel

/-- CIS, CIM, the master flag and the raises after a write of D_STAT. -/
def dStatAfter (cis cim : BitVec 10) (m : Bool) (v : Word) : Option (BitVec 10 × BitVec 10 × Bool × Nat) :=
  seen { s0 with engP := { s0.engP with cis := cis, cim := cim, master := m } } (.write 0x1000E010 .w32 v)
    fun t => (t.engP.cis, t.engP.cim, t.engP.master, raises t)

/-- TV-R5, TV-R6, TV-R7 and TV-PROP3. -/
theorem test_writes_of_D_STAT :
    dStatAfter 0x005 0x001 true 0x00000001 = some (0x004, 0x001, false, 0) ∧
    dStatAfter 0x004 0x000 false 0x00040004 = some (0x000, 0x004, false, 0) ∧
    dStatAfter 0x004 0x000 false 0x00040000 = some (0x004, 0x004, true, 1) ∧
    dStatAfter 0x002 0x005 false 0x00030000 = some (0x002, 0x006, true, 1) ∧
    dStatAfter 0x002 0x006 true 0x00030000 = some (0x002, 0x005, false, 0) := by
  refine ⟨?_, ?_, ?_, ?_, ?_⟩ <;> decide +kernel

/-- TV-R10 to TV-R13, TV-R16, TV-R17: engine S registers after a write; the BCR lanes of TV-R11 and TV-R12. -/
theorem test_writes_of_engine_S :
    (seen s0 (.write 0x1F801080 .w32 0xFF123456) fun t => (t.sch 0).madr) = some 0x123456 ∧
    (seen (sState 2 { sx with bcr := 4 }) (.write 0x1F8010A6 .w16 2) fun t => (t.sch 2).bcr) = some 0x00020004 ∧
    (seen (sState 2 { sx with bcr := 0x00020004 }) (.write 0x1F8010A7 .w8 0xAB) fun t => (t.sch 2).bcr) =
      some 0xAB020004 ∧
    (seen s0 (.write 0x1F8010A8 .w32 0xFFFFFFFF) fun t => (t.sch 2).chcr) = some 0xFFFFFFFF ∧
    (seen s0 (.write 0x1F80152C .w32 0xAB002004) fun t => (t.sch 9).tadr) = some 0x002004 ∧
    (seen s0 (.write 0x1F80157C .w32 2) fun t => (t.engS.dmacinten, t.engS.mif)) = some (2, false) := by
  refine ⟨?_, ?_, ?_, ?_, ?_, ?_⟩ <;> decide +kernel

/-- BCR of channel 2 as TV-R12 leaves it. -/
def lanes : State := sState 2 { sx with bcr := 0xAB020004 }

/-- TV-R12: the lanes read back, zero-extended. -/
theorem test_reads_of_BCR :
    answerTo lanes (.read 0x1F8010A4 .w32) = some (.value 0xAB020004) ∧
    answerTo lanes (.read 0x1F8010A5 .w8) = some (.value 0x00) ∧
    answerTo lanes (.read 0x1F8010A6 .w16) = some (.value 0xAB02) ∧
    answerTo lanes (.read 0x1F8010A7 .w8) = some (.value 0xAB) := by
  refine ⟨?_, ?_, ?_, ?_⟩ <;> decide +kernel

/-- DICR as read, and the raises, after a write of DICR. -/
def dicrAfter (e : EngineS) (v : Word) : Option (Word × Nat) :=
  seen { s0 with engS := e } (.write 0x1F8010F4 .w32 v) fun t => (dicrValue t.engS, raises t)

/-- DICR2 and DICR as read after a write of DICR2. -/
def dicr2After (e : EngineS) (v : Word) : Option (Word × Word) :=
  seen { s0 with engS := e } (.write 0x1F801574 .w32 v) fun t => (dicr2Value t.engS, dicrValue t.engS)

/-- TV-R14, TV-S1 (a) and (b), TV-I7. -/
theorem test_writes_of_DICR :
    dicrAfter s0.engS 0x80FF8000 = some (0x80FF8000, 1) ∧
    dicrAfter { s0.engS with ip1 := 5, im1 := 5, mie := true, mif := true } 0x01000000 = some (0x04000000, 0) ∧
    dicrAfter { s0.engS with ip1 := 5, im1 := 5, mie := true, mif := true } 0x01850000 = some (0x84850000, 0) ∧
    dicrAfter { s0.engS with dmacinten := 2 } 0x00008000 = some (0x80008000, 0) := by
  refine ⟨?_, ?_, ?_, ?_⟩ <;> decide +kernel

/-- TV-R15 and the last line of PROG3. -/
theorem test_writes_of_DICR2 :
    dicr2After { s0.engS with tip := 0x200, im2 := 4, mif := true } 0x00000200 = some (0, 0) ∧
    dicr2After { s0.engS with tip := 0x200, im2 := 4, ip2 := 4, mie := true, mif := true } 0x04040200 =
      some (0x00040000, 0x00800000) := by
  refine ⟨?_, ?_⟩ <;> decide +kernel

/-! ## Engine P (95_test_vectors.md 1 and 2.3) -/

/-- A channel of engine P, started in Chain mode at a TADR with this CHCR, after the service that decodes a tag there. -/
def tagAfterP (c : PChan) (chcr tadr : Word) (t : Quad) :
    Option ((Word × Word × BitVec 16 × Word) × Bool × BitVec 10) :=
  seen ((pState c { px with chcr := chcr, qwc := 0, madr := 0, tadr := tadr }).quadAt tadr.toNat t) .serviceP
    fun u => (regsP c u, (u.pch c).hasTag, u.engP.cis)

/-- TV-P-SC1 #1 and #4, TV-P8 #2, TV-P9 #1, TV-P10: the services that decode a tag in memory. -/
theorem test_decodes_of_engine_P :
    tagAfterP 3 0x105 0x1000 0x0000500010000002 = some ((0x1010, 0x1030, 2, 0x10000105), true, 0) ∧
    tagAfterP 3 0x10000105 0x1030 0x70000000 =
      some ((0x1040, 0x1030, 0, 0x70000005), false, 0x008) ∧
    tagAfterP 2 0x105 0x1000 0x70000000 = some ((0x1010, 0x1000, 0, 0x70000005), false, 0x004) ∧
    tagAfterP 2 0x105 0x1000 0x10000000 = some ((0x1010, 0x1010, 0, 0x10000105), false, 0) ∧
    tagAfterP 2 0x105 0x1000 0x0000800000000000 = some ((0x8000, 0x1010, 0, 0x00000005), false, 0x004) := by
  refine ⟨?_, ?_, ?_, ?_, ?_⟩ <;> decide +kernel

/-- TV-P4, TV-P6, TV-P7 #1, TV-P5, TV-P15: the services that move a unit, or find none left. -/
theorem test_transfers_of_engine_P :
    (seen (pState 2 { px with qwc := 0, madr := 0 }) .serviceP fun t => (regsP 2 t, t.engP.cis, t.log)) =
      some ((0, 0, 0, 0x001), 0x004, []) ∧
    (seen (((pState 2 { px with madr := 0x100F }).quadAt 0x1000 7).peerP 2 [takes]) .serviceP
      fun t => (regsP 2 t, t.log)) =
      some ((0x101F, 0, 0, 0x001), [.memReadP 0x1000, .pushP 2 7 true]) ∧
    (seen ((pState 2 { px with madr := 0xFFFFFFF0, qwc := 2 }).peerP 2 [takes]) .serviceP fun t => regsP 2 t) =
      some (0, 0, 1, 0x101) ∧
    (seen ((pState 3 { px with chcr := 0x100, madr := 0x3000 }).peerP 3 [gives 0x0102030405060708090A0B0C0D0E0F10])
      .serviceP fun t => (regsP 3 t, t.engP.cis, t.memP.readQuad 0x3000, t.memP.readByte 0x3000)) =
      some ((0x3010, 0, 0, 0), 0x008, 0x0102030405060708090A0B0C0D0E0F10, 0x10) ∧
    (seen ((pState 9 { px with madr := 0x3000, sadr := 0x3FF0 }).quadAt 0x3000 7) .serviceP
      fun t => (regsP 9 t, (t.pch 9).sadr, t.spr.readQuad 0x3FF0, t.engP.cis)) =
      some ((0x3010, 0, 0, 0x001), 0, 7, 0x200) := by
  refine ⟨?_, ?_, ?_, ?_, ?_⟩ <;> decide +kernel

/-- TV-P11 #1, TV-P13 #1 and TV-P14 #1: the tag's payload forwarded; a destination tag from the peer, its TTE ignored; one
from the scratchpad. -/
theorem test_tag_sources_of_engine_P :
    (seen (((pState 1 { px with chcr := 0x145, qwc := 0, tadr := 0x1000 }).quadAt 0x1000
        0x11111111222222220000400030000001).peerP 1 [takes]) .serviceP fun t => (regsP 1 t, t.log)) =
      some ((0x4000, 0x1010, 1, 0x30000145), [.memReadP 0x1000, .pushTagP 1 0x1111111122222222 true]) ∧
    (seen ((pState 5 { px with chcr := 0x144, qwc := 0, madr := 0 }).peerP 5 [gives 0x0000500070000001]) .serviceP
      fun t => (regsP 5 t, t.response)) = some ((0x5000, 0, 1, 0x70000144), .progress 5) ∧
    (seen { pState 8 { px with chcr := 0x104, qwc := 0, sadr := 0x100 } with
        spr := Memory.writeQuad [] 0x100 0x0000200070000001 } .serviceP
      fun t => (regsP 8 t, (t.pch 8).sadr, (t.pch 8).chainEnded)) =
      some ((0x2000, 0, 1, 0x70000104), 0x110, true) := by
  refine ⟨?_, ?_, ?_⟩ <;> decide +kernel

/-- The code, channel, value and operation of a fault answer. -/
def faultSeen (s : State) (o : Operation) : Option (FatalCode × Option Nat × Option FatalValue × FatalOp) :=
  (answerTo s o).bind fun r =>
    match r with
    | .fault f => some (f.code, f.channel, f.value, f.operation)
    | _ => none

/-- A channel about to read a tag at 0x1000, TTE set. -/
def chain : PChannel := { px with chcr := 0x145, qwc := 0, tadr := 0x1000 }

/-- TV-P12, TV-P16, TV-P17, TV-P18, TV-P21, TV-P22: the fatal errors of SERVICE_P. -/
theorem test_fatal_services_of_engine_P :
    faultSeen ((pState 2 chain).quadAt 0x1000 0x0000400030000001) .serviceP =
      some (.tteUnsupported, some 2, some (.tag 0x0000400030000001), .tagTransfer) ∧
    faultSeen (((pState 2 px).quadAt 0x1000 9).peerP 2 [refuses]) .serviceP =
      some (.peerOverflow, some 2, some (.quad 9), .transfer) ∧
    faultSeen ((pState 3 { px with chcr := 0x100 }).peerP 3 [refuses]) .serviceP =
      some (.peerUnderflow, some 3, none, .transfer) ∧
    faultSeen ((pState 5 { px with chcr := 0x104, qwc := 0 }).peerP 5 [refuses]) .serviceP =
      some (.peerUnderflow, some 5, none, .tagRead) ∧
    faultSeen (pState 2 { px with chcr := 0x109 }) .serviceP =
      some (.unmodelledMode, some 2, some (.register 0x109), .service) ∧
    faultSeen ((pState 3 { px with chcr := 0x108 }).peerP 3 [refuses]) .serviceP =
      some (.unmodelledMode, some 3, some (.register 0x108), .service) ∧
    faultSeen ((pState 2 chain).quadAt 0x1000 0x50000000) .serviceP =
      some (.unmodelledTag, some 2, some (.tag 0x50000000), .tagDecode) := by
  refine ⟨?_, ?_, ?_, ?_, ?_, ?_, ?_⟩ <;> decide +kernel

/-- Channels 1 and 2 of engine P ready, their peers taking one unit. -/
def twoP : State := (((pState 1 px).setPch 2 px).peerP 1 [takes]).peerP 2 [takes]

/-- TV-P1, TV-P2, TV-P3: which channel a service takes. -/
theorem test_dispatch_of_engine_P :
    answerTo twoP .serviceP = some (.progress 1) ∧
    answerTo { twoP with engP := { twoP.engP with dCtrl := 0 } } .serviceP = some .idle ∧
    answerTo (twoP.setPch 1 { px with drq := false }) .serviceP = some (.progress 2) := by
  refine ⟨?_, ?_, ?_⟩ <;> decide +kernel

/-- Engine P halted by the overflow of TV-P16. -/
def haltedP : State :=
  (pState 2 px).faultedBy .P (serviceFault .P .peerOverflow 2 (some (.quad 0)) .transfer)

/-- Engine S halted likewise. -/
def haltedS : State :=
  (sState 2 sx).faultedBy .S (serviceFault .S .peerOverflow 2 (some (.word 0)) .transfer)

/-- TV-P23. -/
theorem test_halted_engine :
    answerTo haltedP .serviceP = some .noStep ∧ answerTo haltedP (.read 0x1000A000 .w32) = some .noStep ∧
    (seen haltedP (.setRequestP 2 false) fun t => ((t.pch 2).drq, t.engP.fault.isSome)) = some (false, true) ∧
    (seen haltedP .resetP fun t => t.engP.fault) = some none := by
  refine ⟨?_, ?_, ?_, ?_⟩ <;> decide +kernel

/-- R114, R302: where channel 9 takes its tags from its peer, that is the scratchpad at SADR, never empty (log 26). -/
theorem test_scratchpad_peer_of_channel_9 :
    (seen { (pState 9 { px with chcr := 0x105, qwc := 0, sadr := 0x20 }).peerP 9 [refuses] with
        spr := Memory.writeQuad [] 0x20 0x0000500070000001
        cfg := { cfg0 with tagFromPeerP := Vector.replicate 10 true } } .serviceP
      fun t => (regsP 9 t, (t.pch 9).sadr, t.log, t.engP.fault.isSome)) =
      some ((0x5000, 0, 1, 0x70000105), 0x30, [.sprRead 0x20], false) := by decide +kernel

/-! ## Engine S (95_test_vectors.md 2.4) -/

/-- TV-S2 #1, TV-S3, TV-S12, PROG4 SVC 1: slices. -/
theorem test_slices_of_engine_S :
    (seen (((sState 2 { sx with bcr := 0x00020004 }).wordAt 0x1000 7).peerS 2 [takes]) .serviceS
      fun t => (regsS 2 t, (t.sch 2).bcr, t.log)) =
      some ((0x001004, 0, 7, 0x01000201), 0x00020004, [.memReadS 0x1000, .pushS 2 7 true]) ∧
    (seen (sState 2 { sx with bcr := 0x00020000 }) .serviceS fun t => (regsS 2 t, t.log)) =
      some ((0x001000, 0, 0, 0x00000201), []) ∧
    (seen (sState 2 { sx with bcr := 0x00000004 }) .serviceS fun t => (regsS 2 t, t.log)) =
      some ((0x001000, 0, 0, 0x00000201), []) ∧
    (seen ((sState 2 { sx with bcr := 0x00010002, madr := 0xFFFFFC }).peerS 2 [takes]) .serviceS fun t => regsS 2 t) =
      some (0, 0, 1, 0x01000201) ∧
    (seen ((sState 12 { sx with chcr := 0x01000200, bcr := 0x00020002, madr := 0x6000 }).peerS 12 [gives 0x01020304])
      .serviceS fun t => (regsS 12 t, t.memS.readByte 0x6000, t.memS.readByte 0x6003)) =
      some ((0x006004, 0, 3, 0x01000200), 0x04, 0x01) := by
  refine ⟨?_, ?_, ?_, ?_, ?_⟩ <;> decide +kernel

/-- R345, R418: the last word of a slice sets no TIP bit, of a chain it does, whatever the channel holds of a tag. -/
theorem test_slice_sets_no_tip :
    (seen ((sState 12 { sx with chainEnded := true, hasTag := true, tagIrq := true }).peerS 12 [takes]) .serviceS
      fun t => (t.engS.tip, (t.sch 12).chcr)) = some (0, 0x00000201) ∧
    (seen ((sState 12 { sx with chcr := 0x01000601, remaining := 1, chainEnded := true, hasTag := true, tagIrq := true }).peerS
      12 [takes]) .serviceS fun t => (t.engS.tip, (t.sch 12).chcr)) = some (0x1000, 0x00000601) := by
  refine ⟨?_, ?_⟩ <;> decide +kernel

/-- Channel 10 of engine S, its peer about to give w, IM2 bit 3 set. -/
def sif1 (x : SChannel) (w : Word) : State :=
  let t := (sState 10 x).peerS 10 [gives w]
  { t with engS := { t.engS with im2 := 8 } }

/-- Channel 10 started in Chain mode, peer to memory. -/
def s10 : SChannel := { SChannel.reset true with chcr := 0x01000600 }

/-- TV-S8: the tag of channel 10 comes from its peer, one word a service; the last word completes the channel. -/
theorem test_peer_chain_of_engine_S :
    (seen (sif1 s10 0xC0006000) .serviceS fun t => ((t.sch 10).tagBuf, (t.sch 10).tagWords)) =
      some (0xC0006000, true) ∧
    (seen (sif1 { s10 with tagBuf := 0xC0006000, tagWords := true } 1) .serviceS
      fun t => (regsS 10 t, (t.sch 10).chainEnded, (t.sch 10).tagIrq)) =
      some ((0x006000, 0, 1, 0x01000600), true, true) ∧
    (seen (sif1 { s10 with madr := 0x6000, remaining := 1, hasTag := true, chainEnded := true, tagIrq := true } 7) .serviceS
      fun t => (regsS 10 t, dicr2Value t.engS, dicrValue t.engS, raises t)) =
      some ((0x006004, 0, 0, 0x00000600), 0x08080400, 0x80000000, 1) := by
  refine ⟨?_, ?_, ?_⟩ <;> decide +kernel

/-- TV-S6, TV-S7, TV-S14: the fatal errors of SERVICE_S. -/
theorem test_fatal_services_of_engine_S :
    faultSeen (sState 0 sx) .serviceS = some (.unmodelledChannel, some 0, some (.register 0x01000201), .service) ∧
    faultSeen (sState 2 { sx with chcr := 0x01000001 }) .serviceS =
      some (.unmodelledMode, some 2, some (.register 0x01000001), .service) ∧
    faultSeen (sState 2 { sx with chcr := 0x01000401 }) .serviceS =
      some (.unmodelledMode, some 2, some (.register 0x01000401), .service) ∧
    faultSeen (sState 2 { sx with chcr := 0x01000203 }) .serviceS =
      some (.unmodelledMode, some 2, some (.register 0x01000203), .service) ∧
    faultSeen ((sState 10 { sx with chcr := 0x01000600, tagWords := true }).peerS 10 [refuses]) .serviceS =
      some (.peerUnderflow, some 10, none, .tagRead) := by
  refine ⟨?_, ?_, ?_, ?_, ?_⟩ <;> decide +kernel

/-- Channels 9 and 10 of engine S ready, their peers taking one unit. -/
def twoS : State := (((sState 9 sx).setSch 10 sx).peerS 9 [takes]).peerS 10 [takes]

/-- TV-S4, TV-S5, TV-S11: which channel a service takes. -/
theorem test_dispatch_of_engine_S :
    answerTo twoS .serviceS = some (.progress 9) ∧
    answerTo { twoS with engS := { twoS.engS with dpcr2 := 0x8000 } } .serviceS = some (.progress 10) ∧
    answerTo { twoS with engS := { twoS.engS with dpcr2 := 0 } } .serviceS = some .idle ∧
    answerTo { twoS with engS := { twoS.engS with dmacen := 0 } } .serviceS = some .idle := by
  refine ⟨?_, ?_, ?_, ?_⟩ <;> decide +kernel

/-- The enable bits of 95_test_vectors.md 2.1: the channel, DPCR, DPCR2. -/
theorem test_enable_bits :
    [((0 : SChan), (0x00000008 : Word), (0 : Word)), (2, 0x00000800, 0), (6, 0x08000000, 0), (7, 0, 0x00000008),
      (9, 0, 0x00000800), (10, 0, 0x00008000), (11, 0, 0x00080000), (12, 0, 0x00800000)].all
      (fun (c, a, b) => SChan.all.all fun d =>
        enableS { s0.engS with dpcr := a, dpcr2 := b } d == (d == c)) = true := by decide +kernel

/-! ## Interrupts, CPCOND, decode faults (95_test_vectors.md 2.5 to 2.7) -/

/-- TV-I1 SVC P #1 and #2: a raise on the edge only. TV-I4: the masks gate at completion. -/
theorem test_completion_raises :
    (seen { twoP with engP := { twoP.engP with cim := 6 } } .serviceP fun t => (t.engP.cis, t.engP.master, raises t)) =
      some (2, true, 1) ∧
    (seen { twoP with engP := { twoP.engP with cis := 4, cim := 6, master := true } } .serviceP
      fun t => (t.engP.cis, t.engP.master, raises t)) = some (6, true, 0) ∧
    (seen ((sState 2 sx).peerS 2 [takes]) .serviceS fun t => (t.engS.ip1, t.engS.mif)) = some (0, false) := by
  refine ⟨?_, ?_, ?_⟩ <;> decide +kernel

/-- TV-C1 to TV-C7: D_PCR, CIS and CPCOND. -/
theorem test_cpcond :
    [((0x00000000 : Word), (0x000 : BitVec 10), true), (3, 1, false), (3, 3, true), (3, 0x3FC, false),
      (0x3FF, 0x3FF, true), (0x3FF, 0x1FF, false), (0xFFFFFC00, 0, true)].all
      (fun (d, cis, b) => answerTo { s0 with engP := { s0.engP with dPcr := d, cis := cis } } .cpcond ==
        some (.cpcond b)) = true := by decide +kernel

/-- The code, register, address, width and operation of the fault answer to an operation after reset. -/
def accessFault (o : Operation) :
    Option (FatalCode × Option RegRef × Option Word × Option AccessWidth × FatalOp) :=
  (answerTo s0 o).bind fun r =>
    match r with
    | .fault f => some (f.code, f.register, f.address, f.width, f.operation)
    | _ => none

/-- TV-F1 to TV-F10: the code, register, address and width of the fault record. -/
theorem test_decode_faults :
    accessFault (.write 0x1000A000 .w16 0x0101) =
      some (.unsupportedWidth, some (.pCh 2 .chcr), some 0x1000A000, some .w16, .registerWrite) ∧
    accessFault (.read 0x1F801088 .w8) =
      some (.unsupportedWidth, some (.sCh 0 .chcr), some 0x1F801088, some .w8, .registerRead) ∧
    accessFault (.write 0x1F8010A5 .w16 1) =
      some (.unsupportedWidth, some (.sCh 2 .bcr), some 0x1F8010A5, some .w16, .registerWrite) ∧
    accessFault (.write 0x1F8010A6 .w32 1) =
      some (.unsupportedWidth, some (.sCh 2 .bcr), some 0x1F8010A6, some .w32, .registerWrite) ∧
    accessFault (.read 0x1000A001 .w32) =
      some (.unsupportedWidth, some (.pCh 2 .chcr), some 0x1000A001, some .w32, .registerRead) ∧
    [0x1000A004, 0x1000E030, 0x1000B100, 0x1F8010F8, 0x1F801560].all (fun a => accessFault (.read a .w32) ==
      some (.unmodelledRegister, none, some a, some .w32, .registerRead)) = true := by
  refine ⟨?_, ?_, ?_, ?_, ?_, ?_⟩ <;> decide +kernel

/-- An access outside both windows never reaches the core (R109). -/
theorem test_outside_windows :
    runOperation (.read 0x1000F000 .w32) s0 = .fault (.outsideWindows 0x1000F000) ∧
      runOperation (.write 0x1F801580 .w8 0) s0 = .fault (.outsideWindows 0x1F801580) := by
  constructor <;> rfl

/-! ## Witnesses: each statement's hypotheses are met together

`s0`, `pState`, `sState` and the tests above are concrete; each clause of a statement has its own witness, at a boundary of its
range where it has one. -/

/-- The widest value of a lane, and a destination tag on a destination channel. -/
theorem witness_DecodeOfEncodeIsIdentity :
    (Instr.wrSBcr_12_2 .w8 0xFF).wellFormed cfg0 = true ∧ (Instr.wrSBcr_0_0 .w16 0xFFFF).wellFormed cfg0 = true ∧
      (Instr.pDstTagEnd 5 ⟨0, 0, 0, false, 0, 0⟩).wellFormed cfg0 = true := by decide

/-- A lane write whose value just fits, and a read. -/
theorem witness_EncodeOfDecodeIsIdentity :
    decode (.write 0x1F8010A7 .w8 0xFF) = .ok (.wrSBcr_2_3 0xFF) ∧ valueFits .w8 0xFF = true ∧
      decode (.read 0x1000E020 .w32) = .ok .rdPDPcr := by
  refine ⟨?_, ?_, ?_⟩ <;> decide +kernel

/-- A write whose value does not fit: the decoder takes its low bits. -/
theorem witness_DecodeYieldsWellFormed : decode (.write 0x1F8010A4 .w16 0x12345) = .ok (.wrSBcr_2_0 .w16 0x2345) := by
  decide +kernel

/-- The same address, by two names of one register. -/
theorem witness_RegisterMapIsInjective : (RegRef.pCh 3 .chcr).address = 0x1000B000 := by decide

/-- An address of a window at none of its registers: the hypotheses of `UnmappedWordsAreFatal`. -/
theorem unmapped (a : Word) (e : Engine) (h : lookupReg e (wordAddress a) = none) :
    ∀ r : RegRef, r.engine = e → r.address ≠ wordAddress a := by
  rintro r rfl hr
  simp [← hr, lookup_address] at h

/-- The last byte of engine P's window, and words of both of engine S's. -/
theorem witness_UnmappedWordsAreFatal :
    (windowOf 0x1000EFFF = some .P ∧ faultOf .P s0 = none ∧
      ∀ r : RegRef, r.engine = .P → r.address ≠ wordAddress 0x1000EFFF) ∧
    (windowOf 0x1F8010FF = some .S ∧ faultOf .S s0 = none ∧
      ∀ r : RegRef, r.engine = .S → r.address ≠ wordAddress 0x1F8010FF) ∧
    (windowOf 0x1F801560 = some .S ∧ ∀ r : RegRef, r.engine = .S → r.address ≠ wordAddress 0x1F801560) :=
  ⟨⟨by decide, by decide, unmapped _ _ (by decide +kernel)⟩, ⟨by decide, by decide, unmapped _ _ (by decide +kernel)⟩,
    by decide, unmapped _ _ (by decide +kernel)⟩

/-- A narrow access to CHCR, and the 16-bit access to BCR at an odd offset (TV-F1, TV-F3). -/
theorem witness_UnsupportedWidthsAreFatal :
    ((RegRef.pCh 2 .chcr).address = wordAddress 0x1000A000 ∧ faultOf .P s0 = none ∧
      ¬(AccessWidth.w16 = .w32 ∧ (0x1000A000 : Word).toNat % 4 = 0) ∧
      ¬((∃ c, RegRef.pCh 2 .chcr = .sCh c .bcr) ∧
        (AccessWidth.w16 = .w8 ∨ (AccessWidth.w16 = .w16 ∧ (0x1000A000 : Word).toNat % 2 = 0)))) ∧
    ((RegRef.sCh 2 .bcr).address = wordAddress 0x1F8010A5 ∧ faultOf .S s0 = none ∧
      ¬(AccessWidth.w16 = .w32 ∧ (0x1F8010A5 : Word).toNat % 4 = 0) ∧
      ¬((∃ c, RegRef.sCh 2 .bcr = .sCh c .bcr) ∧
        (AccessWidth.w16 = .w8 ∨ (AccessWidth.w16 = .w16 ∧ (0x1F8010A5 : Word).toNat % 2 = 0)))) := by
  refine ⟨⟨by decide, by decide, by decide, ?_⟩, by decide, by decide, by decide, ?_⟩
  · rintro ⟨⟨c, h⟩, -⟩
    cases h
  · rintro ⟨-, h | ⟨-, h⟩⟩
    · cases h
    · exact absurd h (by decide)

/-- A pending write of the last register of engine S; an access past each window's end; an empty list. -/
theorem witness_StepRunsTheDecodedOperation :
    ({ s0 with pending := [.op (.write 0x1F80157C .w32 2), .op .serviceS] } : State).pending =
      .op (.write 0x1F80157C .w32 2) :: [.op .serviceS] ∧
    decode (.write 0x1F80157C .w32 2) = .ok (.wrSDmacinten 2) ∧
    windowOf 0x1000F000 = none ∧ windowOf 0x1F801580 = none ∧ windowOf 0x1F801100 = none ∧ s0.pending = [] := by
  refine ⟨?_, ?_, ?_, ?_, ?_, ?_⟩ <;> decide +kernel

/-- An outside write at the top of each space. -/
theorem witness_OutsideWritesStoreOneUnit :
    (({ s0 with pending := [.memP 0xFFFFFFFF 7] } : State).pending = .memP 0xFFFFFFFF 7 :: [] ∧ s0.memP.wf = true) ∧
    (({ s0 with pending := [.memS 0xFFFFFF 7] } : State).pending = .memS 0xFFFFFF 7 :: [] ∧ s0.memS.wf = true) ∧
    (({ s0 with pending := [.spr 0x3FFF 7] } : State).pending = .spr 0x3FFF 7 :: [] ∧ s0.spr.wf = true) := by
  decide +kernel

/-- `ServesP`, as a check. -/
def servesPCheck (s : State) (c : PChan) : Bool :=
  s.engP.fault.isNone && s.engP.dCtrl.getLsbD 0 && (s.pch c).chcr.getLsbD 8 && (s.pch c).drq &&
    PChan.all.all fun d => !(decide (d < c) && (s.pch d).chcr.getLsbD 8 && (s.pch d).drq)

theorem servesP_of {s : State} {c : PChan} (h : servesPCheck s c = true) : ServesP s c := by
  simp only [servesPCheck, Bool.and_eq_true, Option.isNone_iff_eq_none, List.all_eq_true, Bool.not_eq_true',
    Bool.and_eq_false_iff, decide_eq_false_iff_not] at h
  obtain ⟨⟨⟨⟨h1, h2⟩, h3⟩, h4⟩, h5⟩ := h
  refine ⟨h1, h2, h3, h4, fun d hd hr => ?_⟩
  have hm : ∀ d : PChan, d ∈ PChan.all := by decide
  rcases h5 d (hm d) with (h | h) | h
  · exact h hd
  · exact absurd (hr.1.symm.trans h) (by decide)
  · exact absurd (hr.2.symm.trans h) (by decide)

/-- `ServesS`, as a check. -/
def servesSCheck (s : State) (c : SChan) : Bool :=
  s.engS.fault.isNone && s.engS.dmacen.getLsbD 0 && (s.sch c).chcr.getLsbD 24 && (s.sch c).drq && channelEnable s c &&
    SChan.all.all fun d => !(decide (d < c) && (s.sch d).chcr.getLsbD 24 && (s.sch d).drq && channelEnable s d)

theorem servesS_of {s : State} {c : SChan} (h : servesSCheck s c = true) : ServesS s c := by
  simp only [servesSCheck, Bool.and_eq_true, Option.isNone_iff_eq_none, List.all_eq_true, Bool.not_eq_true',
    Bool.and_eq_false_iff, decide_eq_false_iff_not] at h
  obtain ⟨⟨⟨⟨⟨h1, h2⟩, h3⟩, h4⟩, h5⟩, h6⟩ := h
  refine ⟨h1, h2, h3, h4, h5, fun d hd hr => ?_⟩
  have hm : ∀ d : SChan, d ∈ SChan.all := by decide
  rcases h6 d (hm d) with ((h | h) | h) | h
  · exact h hd
  · exact absurd (hr.1.symm.trans h) (by decide)
  · exact absurd (hr.2.1.symm.trans h) (by decide)
  · exact absurd (hr.2.2.symm.trans h) (by decide)

/-- A channel of engine P started in Chain mode, with nothing left to move. -/
def pc : PChannel := { px with chcr := 0x105, qwc := 0 }

/-- A channel of engine S started in Chain mode, with nothing left to move. -/
def sc : SChannel := { sx with chcr := 0x01000601 }

/-- Channel 9 reads from memory; channel 8 from the scratchpad; channel 5 from its peer, whose tag is an END. -/
theorem witness_ServicePRunsTheFetchedTag :
    (ServesP (pState 9 pc) 9 ∧ ((pState 9 pc).pch 9).chcr.extractLsb' 2 2 = 1 ∧ ((pState 9 pc).pch 9).qwc = 0 ∧
      ¬(((pState 9 pc).pch 9).hasTag = true ∧ ((pState 9 pc).pch 9).chainEnded = true) ∧
      (pState 9 pc).cfg.tagFromPeerP[(9 : PChan)] = false) ∧
    (ServesP (pState 8 pc) 8 ∧ ((pState 8 pc).pch 8).chcr.extractLsb' 2 2 = 1 ∧ ((pState 8 pc).pch 8).qwc = 0 ∧
      (pState 8 pc).cfg.tagFromPeerP[(8 : PChan)] = true ∧ tagId (sprReadP (pState 8 pc) 8) = 0) ∧
    (ServesP ((pState 5 pc).peerP 5 [gives 0x70000000]) 5 ∧ tagId 0x70000000 = 7 ∧
      ((pState 5 pc).peerP 5 [gives 0x70000000]).cfg.tagFromPeerP[(5 : PChan)] = true ∧
      (answerP ((pState 5 pc).peerP 5 [gives 0x70000000]) 5).unit = some 0x70000000) := by
  refine ⟨⟨servesP_of ?_, ?_⟩, ⟨servesP_of ?_, ?_⟩, servesP_of ?_, ?_⟩ <;> decide +kernel

/-- Channel 12 reads from memory; channel 10 holds the first word of a tag from its peer, which gives the second. -/
theorem witness_ServiceSRunsTheFetchedTag :
    (ServesS (sState 12 sc) 12 ∧ (sState 12 sc).cfg.peerPresentS[(12 : SChan)] = true ∧
      ((sState 12 sc).sch 12).chcr.getLsbD 1 = false ∧ ((sState 12 sc).sch 12).chcr.extractLsb' 9 2 = 3 ∧
      ((sState 12 sc).sch 12).remaining = 0 ∧ ((sState 12 sc).sch 12).hasTag = false ∧
      (sState 12 sc).cfg.tagFromPeerS[(12 : SChan)] = false) ∧
    (let s := (sState 10 { sc with tagWords := true }).peerS 10 [gives 1];
      ServesS s 10 ∧ s.cfg.peerPresentS[(10 : SChan)] = true ∧ (s.sch 10).chcr.extractLsb' 9 2 = 3 ∧
        (s.sch 10).remaining = 0 ∧ (s.sch 10).hasTag = false ∧ s.cfg.tagFromPeerS[(10 : SChan)] = true ∧
        (s.sch 10).tagWords = true ∧ (answerS s 10).unit = some 1) := by
  refine ⟨⟨servesS_of ?_, ?_⟩, servesS_of ?_, ?_⟩ <;> decide +kernel

/-- Neither engine is halted after reset: the hypothesis of the statements about register accesses and tags. -/
theorem not_halted : s0.engP.fault = none ∧ s0.engS.fault = none := by decide

theorem witness_ReadsOfEngineSChannels : s0.engS.fault = none := not_halted.2
theorem witness_ReadsOfBcrLanes : lanes.engS.fault = none := rfl
theorem witness_ReadsOfEngineSWide : s0.engS.fault = none := not_halted.2
theorem witness_PlainWritesOfEngineP : s0.engP.fault = none := not_halted.1
theorem witness_WritesOfDStat : s0.engP.fault = none := not_halted.1
theorem witness_PlainWritesOfEngineS : s0.engS.fault = none := not_halted.2
theorem witness_WritesOfBcrLanes : lanes.engS.fault = none := rfl
theorem witness_WritesOfDicr : s0.engS.fault = none := not_halted.2
theorem witness_WritesOfDicr2 : s0.engS.fault = none := not_halted.2
theorem witness_MaskToggledTwiceIsRestored : s0.engP.fault = none := not_halted.1
theorem witness_UnmodelledTagsAreFatal : s0.engP.fault = none := not_halted.1
theorem witness_EngineSTagDecodes : s0.engS.fault = none := not_halted.2

/-- A start of channel 9, and a write to the busy channel. -/
theorem witness_WritesOfPChcr :
    (s0.engP.fault = none ∧ (s0.pch 9).chcr.getLsbD 8 = false ∧ (0x105 : Word).getLsbD 8 = true) ∧
    ((pState 9 px).engP.fault = none ∧ ((pState 9 px).pch 9).chcr.getLsbD 8 = true) := by decide +kernel

/-- A start of channel 12, and a write to the busy channel. -/
theorem witness_WritesOfSChcr :
    (s0.engS.fault = none ∧ (s0.sch 12).chcr.getLsbD 24 = false ∧ (0x01000201 : Word).getLsbD 24 = true) ∧
    ((sState 12 sx).engS.fault = none ∧ ((sState 12 sx).sch 12).chcr.getLsbD 24 = true) := by decide +kernel

/-- The invariant holds in the concrete reset state. -/
theorem s0_inv : s0.Inv where
  pSound := by decide +kernel
  sSound := by decide +kernel
  pMaster := by decide
  sMaster := by decide
  pFault := rfl
  sFault := rfl
  memP := by decide
  memS := by decide
  spr := by decide

theorem witness_ReadsOfEngineP : s0.engP.fault = none ∧ s0.Inv := ⟨not_halted.1, s0_inv⟩

/-- A register with reserved bits, of the last channel. -/
theorem witness_WriteBackChangesNothing :
    s0.Inv ∧ plainStorage (.pCh 9 .chcr) = true ∧ faultOf (RegRef.pCh 9 .chcr).engine s0 = none :=
  ⟨s0_inv, rfl, by decide⟩

theorem witness_WritesReadBackMasked :
    plainStorage (.sCh 12 .tadr) = true ∧ faultOf (RegRef.sCh 12 .tadr).engine s0 = none := by decide

/-- Two states that differ in hidden state only, and the last address of a window. -/
theorem witness_ReadsSeeRegistersOnly :
    (∀ r, regValue s0 r = regValue (s0.setPch 3 { s0.pch 3 with hasTag := true, drq := true }) r) ∧
    s0.pch 3 ≠ (s0.setPch 3 { s0.pch 3 with hasTag := true, drq := true }).pch 3 ∧ windowOf 0x1F80157F ≠ none := by
  refine ⟨fun r => ?_, by decide +kernel, by decide⟩
  rcases r with ⟨c, r⟩ | r | ⟨c, r⟩ | r
  · revert c
    cases r <;> decide +kernel
  · cases r <;> rfl
  · cases r <;> rfl
  · cases r <;> rfl

/-- A halted engine of each kind, an address of its window and an instruction of it. -/
theorem witness_HaltedEnginesTakeNoStep :
    (haltedP.engP.fault ≠ none ∧ windowOf 0x10008000 = some .P ∧ instrEngine .serviceP = some .P) ∧
    (haltedS.engS.fault ≠ none ∧ windowOf 0x1F801080 = some .S ∧ instrEngine .serviceS = some .S) := by
  decide +kernel

/-- A request on a halted engine, by a step. -/
theorem witness_FaultsAreSticky :
    (∃ t, step { haltedP with pending := [.op (.setRequestP 2 false)] } = .next t) ∧ haltedP.engP.fault ≠ none ∧
    (∃ t, step { haltedS with pending := [.op (.setRequestS 2 false)] } = .next t) ∧ haltedS.engS.fault ≠ none :=
  ⟨⟨_, rfl⟩, by decide, ⟨_, rfl⟩, by decide⟩

/-- A refused push on each engine. -/
theorem witness_FatalServicesArePrecise :
    (∃ t r, exec .serviceP ((pState 2 px).peerP 2 [refuses]) = .next t ∧ t.response = .fault r) ∧
    (∃ t r, exec .serviceS ((sState 2 sx).peerS 2 [refuses]) = .next t ∧ t.response = .fault r) :=
  ⟨⟨_, _, rfl, rfl⟩, _, _, rfl, rfl⟩

theorem witness_EnginePIgnoresEngineS :
    instrEngine .serviceP = some .P ∧ ∃ t, exec .serviceP twoP = .next t := ⟨by decide, _, rfl⟩

theorem witness_EngineSIgnoresEngineP :
    instrEngine .serviceS = some .S ∧ ∃ t, exec .serviceS twoS = .next t := ⟨by decide, _, rfl⟩

/-- Each engine disabled with a ready channel, and enabled with none. -/
theorem witness_IdleServicesChangeNothing :
    (({ twoP with engP := { twoP.engP with dCtrl := 0xFFFFFFFE } } : State).engP.dCtrl.getLsbD 0 = false) ∧
    (∀ c, ¬(((pState 9 { px with drq := false }).pch c).chcr.getLsbD 8 = true ∧
      ((pState 9 { px with drq := false }).pch c).drq = true)) ∧
    (({ twoS with engS := { twoS.engS with dmacen := 0xFFFFFFFE } } : State).engS.dmacen.getLsbD 0 = false) ∧
    (∀ c, ¬(((sState 12 { sx with drq := false }).sch c).chcr.getLsbD 24 = true ∧
      ((sState 12 { sx with drq := false }).sch c).drq = true ∧
      channelEnable (sState 12 { sx with drq := false }) c = true)) := by
  refine ⟨?_, ?_, ?_, ?_⟩ <;> decide +kernel

theorem witness_ServicePTouchesOneChannel :
    ServesP (pState 9 px) 9 ∧ ∃ t, exec .serviceP (pState 9 px) = .next t :=
  ⟨servesP_of (by decide +kernel), _, rfl⟩

theorem witness_ServiceSTouchesOneChannel :
    ServesS (sState 12 sx) 12 ∧ ∃ t, exec .serviceS (sState 12 sx) = .next t :=
  ⟨servesS_of (by decide +kernel), _, rfl⟩

/-- The last channels with a peer of their own, and the first; Normal and Chain. -/
theorem witness_ServicePMovesAQuadwordToThePeer :
    (let s := (pState 7 px).peerP 7 [takes];
      ServesP s 7 ∧ (s.pch 7).chcr.extractLsb' 2 2 = 0 ∧ (s.pch 7).qwc ≠ 0 ∧ (s.pch 7).chcr.getLsbD 0 = true ∧
        (7 : PChan) ≠ 8 ∧ (7 : PChan) ≠ 9 ∧ (answerP s 7).accepts = true) ∧
    (let s := (pState 0 { pc with qwc := 0xFFFF }).peerP 0 [takes];
      ServesP s 0 ∧ (s.pch 0).chcr.extractLsb' 2 2 = 1 ∧ (s.pch 0).qwc ≠ 0 ∧ (s.pch 0).chcr.getLsbD 0 = true ∧
        (0 : PChan) ≠ 8 ∧ (0 : PChan) ≠ 9 ∧ (answerP s 0).accepts = true) := by
  refine ⟨⟨servesP_of ?_, ?_⟩, servesP_of ?_, ?_⟩ <;> decide +kernel

theorem witness_ServicePMovesAQuadwordToMemory :
    let s := (pState 7 { px with chcr := 0x100, madr := 0xFFFFFFFF }).peerP 7 [gives 7];
    ServesP s 7 ∧ s.memP.wf = true ∧ (s.pch 7).chcr.extractLsb' 2 2 = 0 ∧ (s.pch 7).qwc ≠ 0 ∧
      (s.pch 7).chcr.getLsbD 0 = false ∧ (7 : PChan) ≠ 8 ∧ (7 : PChan) ≠ 9 ∧ (answerP s 7).unit = some 7 := by
  refine ⟨servesP_of ?_, ?_⟩ <;> decide +kernel

/-- Channel 9 into the scratchpad at its last quadword, channel 8 out of it. -/
theorem witness_ServicePMovesScratchpadQuadwords :
    (let s := pState 9 { px with sadr := 0x3FFF };
      ServesP s 9 ∧ (s.pch 9).chcr.extractLsb' 2 2 = 0 ∧ (s.pch 9).qwc ≠ 0 ∧ (s.pch 9).chcr.getLsbD 0 = true ∧
        s.spr.wf = true) ∧
    (let s := pState 8 { pc with qwc := 1, chcr := 0x104 };
      ServesP s 8 ∧ (s.pch 8).chcr.extractLsb' 2 2 = 1 ∧ (s.pch 8).qwc ≠ 0 ∧ (s.pch 8).chcr.getLsbD 0 = false ∧
        s.memP.wf = true) := by
  refine ⟨⟨servesP_of ?_, ?_⟩, servesP_of ?_, ?_⟩ <;> decide +kernel

/-- A fatal service of channel 9; a refused push, an empty pop, an empty pop of a tag. -/
theorem witness_PeerFailuresOfEngineP :
    (let s := pState 9 { px with chcr := 0x109 };
      ServesP s 9 ∧ ∃ t r, exec .serviceP s = .next t ∧ t.response = .fault r) ∧
    (let s := (pState 7 px).peerP 7 [refuses];
      ServesP s 7 ∧ (s.pch 7).chcr.extractLsb' 2 2 = 0 ∧ (s.pch 7).qwc ≠ 0 ∧ (s.pch 7).chcr.getLsbD 0 = true ∧
        (answerP s 7).accepts = false) ∧
    (let s := (pState 7 { px with chcr := 0x100 }).peerP 7 [refuses];
      ServesP s 7 ∧ (s.pch 7).chcr.extractLsb' 2 2 = 0 ∧ (s.pch 7).qwc ≠ 0 ∧ (s.pch 7).chcr.getLsbD 0 = false ∧
        (answerP s 7).unit = none) ∧
    (let s := (pState 5 pc).peerP 5 [refuses];
      ServesP s 5 ∧ (s.pch 5).chcr.extractLsb' 2 2 = 1 ∧ (s.pch 5).qwc = 0 ∧ (s.pch 5).hasTag = false ∧
        s.cfg.tagFromPeerP[(5 : PChan)] = true ∧ (answerP s 5).unit = none) := by
  refine ⟨⟨servesP_of ?_, _, _, rfl, rfl⟩, ⟨servesP_of ?_, ?_⟩, ⟨servesP_of ?_, ?_⟩, servesP_of ?_, ?_⟩ <;> decide +kernel

/-- The two modes that are not modelled. -/
theorem witness_UnmodelledModesOfEngineP :
    (ServesP (pState 2 { px with chcr := 0x109 }) 2 ∧
      ((pState 2 { px with chcr := 0x109 }).pch 2).chcr.extractLsb' 2 2 = 2) ∧
    (ServesP (pState 9 { px with chcr := 0x10D }) 9 ∧
      ((pState 9 { px with chcr := 0x10D }).pch 9).chcr.extractLsb' 2 2 = 3) := by
  refine ⟨⟨servesP_of ?_, ?_⟩, servesP_of ?_, ?_⟩ <;> decide +kernel

/-- Normal with no quadword, and an ended chain whose tag is held. -/
theorem witness_EmptyTransfersComplete :
    (ServesP (pState 2 { px with qwc := 0 }) 2 ∧ ((pState 2 { px with qwc := 0 }).pch 2).qwc = 0 ∧
      ((pState 2 { px with qwc := 0 }).pch 2).chcr.extractLsb' 2 2 = 0) ∧
    (let s := pState 2 { pc with hasTag := true, chainEnded := true };
      ServesP s 2 ∧ (s.pch 2).qwc = 0 ∧ (s.pch 2).chcr.extractLsb' 2 2 = 1 ∧ (s.pch 2).hasTag = true ∧
        (s.pch 2).chainEnded = true) := by
  refine ⟨⟨servesP_of ?_, ?_⟩, servesP_of ?_, ?_⟩ <;> decide +kernel

/-- A transfer of one quadword. -/
theorem witness_NormalTransferTakesQwcServices :
    let s := (pState 2 px).peerP 2 [takes];
    ServesP s 2 ∧ (s.pch 2).chcr.extractLsb' 2 2 = 0 ∧ (s.pch 2).chcr.getLsbD 0 = true ∧ (s.pch 2).qwc.toNat = 1 ∧
      s.peersP[(2 : PChan)] = List.replicate 1 ⟨true, none, none⟩ := by
  refine ⟨servesP_of ?_, ?_⟩ <;> decide +kernel

/-- TTE clear, and TTE set with a peer that takes the payload: the hypothesis within `SourceDecodes`. -/
theorem witness_SourceTagsDecode :
    ((pState 9 pc).engP.fault = none ∧ ((pState 9 pc).pch 9).chcr.getLsbD 6 = false) ∧
    (let s := (pState 0 { pc with chcr := 0x145 }).peerP 0 [takes];
      s.engP.fault = none ∧ (s.pch 0).chcr.getLsbD 6 = true ∧ s.cfg.tteFwd[(0 : PChan)] = true ∧
        (answerP s 0).accepts = true) := by decide +kernel

theorem witness_DestinationTagsDecode : (pState 5 pc).engP.fault = none := rfl

/-- A channel that does not forward, and one whose peer refuses. -/
theorem witness_RefusedTagTransfersAreFatal :
    (let s := pState 2 { pc with chcr := 0x145 };
      s.engP.fault = none ∧ (s.pch 2).chcr.getLsbD 6 = true ∧ tagId 0x70000000 ≠ 5 ∧ tagId 0x70000000 ≠ 6 ∧
        s.cfg.tteFwd[(2 : PChan)] = false) ∧
    (let s := (pState 6 { pc with chcr := 0x145 }).peerP 6 [refuses];
      s.engP.fault = none ∧ (s.pch 6).chcr.getLsbD 6 = true ∧ tagId 0x40000000 ≠ 5 ∧ tagId 0x40000000 ≠ 6 ∧
        s.cfg.tteFwd[(6 : PChan)] = true ∧ (answerP s 6).accepts = false) := by decide +kernel

/-- Two tags that differ in bits 16, 27, 64 and 127 only. -/
theorem witness_IgnoredTagBits :
    (0x00000000000000000040000030000004 : Quad) ≠ 0x80000000000000010040000038010004 ∧
    ∀ i, i < 16 ∨ (28 ≤ i ∧ i < 64) → (0x00000000000000000040000030000004 : Quad).getLsbD i =
      (0x80000000000000010040000038010004 : Quad).getLsbD i := by
  refine ⟨by decide, fun i hi => ?_⟩
  have : i < 64 := by omega
  revert hi
  revert i
  decide +kernel

theorem witness_PeerTagFirstWordIsHeld :
    let s := (sState 10 s10).peerS 10 [gives 0xC0006000];
    ServesS s 10 ∧ s.cfg.peerPresentS[(10 : SChan)] = true ∧ (s.sch 10).chcr.getLsbD 1 = false ∧
      (s.sch 10).chcr.extractLsb' 9 2 = 3 ∧ (s.sch 10).remaining = 0 ∧ (s.sch 10).hasTag = false ∧
      s.cfg.tagFromPeerS[(10 : SChan)] = true ∧ (s.sch 10).tagWords = false ∧
      (answerS s 10).unit = some 0xC0006000 := by
  refine ⟨servesS_of ?_, ?_⟩ <;> decide +kernel

/-- A slice not yet active, and a chain segment under way, on the last channel. -/
theorem witness_ServiceSMovesAWordToThePeer :
    (let s := (sState 12 sx).peerS 12 [takes];
      ServesS s 12 ∧ s.cfg.peerPresentS[(12 : SChan)] = true ∧ (s.sch 12).chcr.getLsbD 1 = false ∧
        (s.sch 12).chcr.extractLsb' 9 2 = 1 ∧ (s.sch 12).started.remaining ≠ 0 ∧
        (s.sch 12).chcr.getLsbD 0 = true ∧ (answerS s 12).accepts = true) ∧
    (let s := (sState 12 { sc with remaining := 0xFFFFFFFF, hasTag := true }).peerS 12 [takes];
      ServesS s 12 ∧ s.cfg.peerPresentS[(12 : SChan)] = true ∧ (s.sch 12).chcr.getLsbD 1 = false ∧
        (s.sch 12).chcr.extractLsb' 9 2 = 3 ∧ (s.sch 12).started.remaining ≠ 0 ∧
        (s.sch 12).chcr.getLsbD 0 = true ∧ (answerS s 12).accepts = true) := by
  refine ⟨⟨servesS_of ?_, ?_⟩, servesS_of ?_, ?_⟩ <;> decide +kernel

theorem witness_ServiceSMovesAWordToMemory :
    let s := (sState 12 { sx with chcr := 0x01000200, madr := 0xFFFFFF }).peerS 12 [gives 7];
    ServesS s 12 ∧ s.cfg.peerPresentS[(12 : SChan)] = true ∧ s.memS.wf = true ∧ (s.sch 12).chcr.getLsbD 1 = false ∧
      (s.sch 12).chcr.extractLsb' 9 2 = 1 ∧ (s.sch 12).started.remaining ≠ 0 ∧
      (s.sch 12).chcr.getLsbD 0 = false ∧ (answerS s 12).unit = some 7 := by
  refine ⟨servesS_of ?_, ?_⟩ <;> decide +kernel

/-- A slice of no words (BS = 0), and an ended chain whose tag is held. -/
theorem witness_EmptySlicesComplete :
    (let s := sState 2 { sx with bcr := 0xFFFF0000 };
      ServesS s 2 ∧ s.cfg.peerPresentS[(2 : SChan)] = true ∧ (s.sch 2).chcr.getLsbD 1 = false ∧
        (s.sch 2).started.remaining = 0 ∧ (s.sch 2).chcr.extractLsb' 9 2 = 1) ∧
    (let s := sState 9 { sc with hasTag := true, chainEnded := true };
      ServesS s 9 ∧ s.cfg.peerPresentS[(9 : SChan)] = true ∧ (s.sch 9).chcr.getLsbD 1 = false ∧
        (s.sch 9).started.remaining = 0 ∧ (s.sch 9).chcr.extractLsb' 9 2 = 3 ∧ (s.sch 9).hasTag = true ∧
        (s.sch 9).chainEnded = true) := by
  refine ⟨⟨servesS_of ?_, ?_⟩, servesS_of ?_, ?_⟩ <;> decide +kernel

/-- Each fatal error: no peer; the two modes and the decrementing step; a refused push; an empty pop of a data and of a tag word. -/
theorem witness_FatalServicesOfEngineS :
    (ServesS (sState 8 sx) 8 ∧ (sState 8 sx).cfg.peerPresentS[(8 : SChan)] = false) ∧
    (let s := sState 2 { sx with chcr := 0x01000401 };
      ServesS s 2 ∧ s.cfg.peerPresentS[(2 : SChan)] = true ∧ (s.sch 2).chcr.extractLsb' 9 2 = 2) ∧
    (let s := sState 12 { sx with chcr := 0x01000001 };
      ServesS s 12 ∧ s.cfg.peerPresentS[(12 : SChan)] = true ∧ (s.sch 12).chcr.extractLsb' 9 2 = 0) ∧
    (let s := sState 2 { sx with chcr := 0x01000203 };
      ServesS s 2 ∧ s.cfg.peerPresentS[(2 : SChan)] = true ∧ (s.sch 2).chcr.getLsbD 1 = true) ∧
    (let s := (sState 2 sx).peerS 2 [refuses];
      ServesS s 2 ∧ (s.sch 2).chcr.extractLsb' 9 2 = 1 ∧ (s.sch 2).started.remaining ≠ 0 ∧
        (s.sch 2).chcr.getLsbD 0 = true ∧ (answerS s 2).accepts = false) ∧
    (let s := (sState 2 { sx with chcr := 0x01000200 }).peerS 2 [refuses];
      ServesS s 2 ∧ (s.sch 2).chcr.extractLsb' 9 2 = 1 ∧ (s.sch 2).started.remaining ≠ 0 ∧
        (s.sch 2).chcr.getLsbD 0 = false ∧ (answerS s 2).unit = none) ∧
    (let s := (sState 10 s10).peerS 10 [refuses];
      ServesS s 10 ∧ s.cfg.peerPresentS[(10 : SChan)] = true ∧ (s.sch 10).chcr.extractLsb' 9 2 = 3 ∧
        (s.sch 10).remaining = 0 ∧ (s.sch 10).hasTag = false ∧ s.cfg.tagFromPeerS[(10 : SChan)] = true ∧
        (answerS s 10).unit = none) := by
  refine ⟨⟨servesS_of ?_, ?_⟩, ⟨servesS_of ?_, ?_⟩, ⟨servesS_of ?_, ?_⟩, ⟨servesS_of ?_, ?_⟩, ⟨servesS_of ?_, ?_⟩,
    ⟨servesS_of ?_, ?_⟩, servesS_of ?_, ?_⟩ <;> decide +kernel

/-- A step whose master flag rises (TV-R7). -/
theorem witness_RaisesAreRisingEdges :
    (seen { s0 with engP := { s0.engP with cis := 4 } } (.write 0x1000E010 .w32 0x00040000)
      fun t => (s0.engP.master, t.engP.master)) = some (false, true) := by decide +kernel

/-- A flag written with the value it has. -/
theorem witness_SetRequestWritesOneFlag : ((pState 9 px).pch 9).drq = true ∧ ((sState 12 sx).sch 12).drq = true := by
  decide +kernel

/-- A completion, from a state with the invariant. -/
theorem witness_InvKeptByEveryStep : s0.Inv ∧ ∃ t, step { s0 with pending := [.op .serviceP] } = .next t :=
  ⟨s0_inv, _, rfl⟩

/-- CALL in memory at channel 9's TADR; ID 2 in the scratchpad at channel 8's SADR; ID 6 from the peer of channel 5. -/
theorem witness_ServicesOfUnmodelledTagsAreFatal :
    (let s := (pState 9 { pc with tadr := 0x20 }).quadAt 0x20 0x50000000;
      ServesP s 9 ∧ (s.pch 9).chcr.extractLsb' 2 2 = 1 ∧ (s.pch 9).qwc = 0 ∧ (s.pch 9).hasTag = false ∧
        s.cfg.tagFromPeerP[(9 : PChan)] = false ∧
        tagId (s.memP.readQuad (busAddrP (s.pch 9).tadr).toNat) = 5) ∧
    (let s := { pState 8 { pc with sadr := 0x3FF0 } with spr := Memory.writeQuad [] 0x3FF0 0x20000000 };
      ServesP s 8 ∧ (s.pch 8).chcr.extractLsb' 2 2 = 1 ∧ (s.pch 8).qwc = 0 ∧ (s.pch 8).hasTag = false ∧
        s.cfg.tagFromPeerP[(8 : PChan)] = true ∧
        (tagId (s.spr.readQuad (sprOffset (s.pch 8).sadr).toNat)).toNat = 2) ∧
    (let s := (pState 5 pc).peerP 5 [gives 0x60000000];
      ServesP s 5 ∧ (s.pch 5).chcr.extractLsb' 2 2 = 1 ∧ (s.pch 5).qwc = 0 ∧ (s.pch 5).hasTag = false ∧
        s.cfg.tagFromPeerP[(5 : PChan)] = true ∧ (answerP s 5).unit = some 0x60000000 ∧
        (tagId 0x60000000).toNat = 6) := by
  refine ⟨⟨servesP_of ?_, ?_⟩, ⟨servesP_of ?_, ?_⟩, servesP_of ?_, ?_⟩ <;> decide +kernel
end Sys2Proof.Tests
end

section
/-! PROOFS. The statements about whole steps and services (00_scope.md): what a step runs, and that a fatal error of a
service is precise. -/

namespace Sys2Proof

/-- No access outside both windows finds a register (R109). -/
theorem decodeAddress_outside {a : Word} (h : windowOf a = none) (w : AccessWidth) (kind : AccessKind) :
    decodeAddress a w kind = .error (.outsideWindows a) := by
  simp only [decodeAddress, h]

/-- A register access outside both windows is no instruction (R109). -/
theorem decode_outside {o : Operation} {a : Word} {w : AccessWidth} {v : Word}
    (ho : o = .read a w ∨ o = .write a w v) (h : windowOf a = none) : decode o = .error (.outsideWindows a) := by
  rcases ho with rfl | rfl <;> simp only [decode, decodeAddress_outside h]

namespace Machine

/-! ### Steps -/

theorem runOperation_ok {o : Operation} {i : Instr} (h : decode o = .ok i) (s : State) :
    runOperation o s = exec i s := by
  simp only [runOperation, h]

theorem runOperation_error {o : Operation} {err : DecodeError} (h : decode o = .error err) (s : State) :
    runOperation o s = rejectAccess err s := by
  simp only [runOperation, h]

/-- With nothing listed a step changes nothing (log 1). -/
theorem step_nil {s : State} (h : s.pending = []) : step s = .next s := by
  simp only [step, runStep, h]

/-- A step takes the first entry off the list and runs it on the rest (R116, log 1). -/
theorem step_cons {s : State} {p : Pending} {rest : List Pending} (h : s.pending = p :: rest) :
    step s = runPending p { s with pending := rest } := by
  simp only [step, runStep, h, State.setPending]

theorem step_op {s : State} {o : Operation} {rest : List Pending} (h : s.pending = .op o :: rest) :
    step s = runOperation o { s with pending := rest } := step_cons h

/-! ### Fatal services -/

/-- Only a fatal sub-step answers a fault: one that is done answers PROGRESS (R290, R340). -/
theorem settle_fault {e : Engine} {c : Nat} {s : State} {sub : SubStep} {r : FaultRecord}
    (h : (settle e c s sub).response = .fault r) : ∃ u, sub = .fatal r u := by
  cases sub with
  | done u => cases h
  | fatal r' u =>
    have hr : r' = r := by cases e <;> exact Response.fault.inj h
    exact ⟨u, by rw [hr]⟩

/-- A SERVICE_P that answers a fault made one fatal sub-step, whose fatal error it takes (R290, R400). -/
theorem runServiceP_fault {s : State} {r : FaultRecord} (h : (runServiceP s).response = .fault r) :
    ∃ c u, serviceChannelP c s = .fatal r u ∧ runServiceP s = takeFatal .P s u r := by
  rcases runServiceP_cases s with ⟨he, -⟩ | he | ⟨c, -, he⟩ <;> rw [he] at h
  case inl => cases h
  case inr.inl => cases h
  case inr.inr =>
    obtain ⟨u, hu⟩ := settle_fault h
    exact ⟨c, u, hu, by rw [he, hu, settle]⟩

/-- A SERVICE_S that answers a fault made one fatal sub-step, whose fatal error it takes (R340, R400). -/
theorem runServiceS_fault {s : State} {r : FaultRecord} (h : (runServiceS s).response = .fault r) :
    ∃ c u, serviceChannelS c s = .fatal r u ∧ runServiceS s = takeFatal .S s u r := by
  rcases runServiceS_cases s with ⟨he, -⟩ | he | ⟨c, -, he⟩ <;> rw [he] at h
  case inl => cases h
  case inr.inl => cases h
  case inr.inr =>
    obtain ⟨u, hu⟩ := settle_fault h
    exact ⟨c, u, hu, by rw [he, hu, settle]⟩

/-- A fatal sub-step of engine P has made calls and no more: memory and the scratchpad are as they were (R18). -/
theorem serviceChannelP_fatal {c : PChan} {s u : State} {r : FaultRecord} (h : serviceChannelP c s = .fatal r u) :
    ∃ x calls, CallsP c x calls s u ∧ (∀ e ∈ calls, CallOfP c e) ∧ u.memP = s.memP ∧ u.spr = s.spr ∧
      r.engine = .P := by
  have hok := serviceChannelP_okP c s
  rw [h] at hok
  obtain ⟨x, calls, hcalls, hof, hmem, hspr, heng, -, -⟩ := hok
  exact ⟨x, calls, hcalls, hof, hmem, hspr, heng⟩

/-- A fatal sub-step of engine S has made calls and no more: memory is as it was (R18). -/
theorem serviceChannelS_fatal {c : SChan} {s u : State} {r : FaultRecord} (h : serviceChannelS c s = .fatal r u) :
    ∃ x calls, CallsS c x calls s u ∧ (∀ e ∈ calls, CallOfS c e) ∧ u.memS = s.memS ∧ r.engine = .S := by
  have hok := serviceChannelS_okS c s
  rw [h] at hok
  obtain ⟨x, calls, hcalls, hof, hmem, heng, -, -⟩ := hok
  exact ⟨x, calls, hcalls, hof, hmem, heng⟩

/-- Calls that are no raise of either engine hold no raise (R422). -/
theorem intcRaise_notMem {calls : List Event} (h : ∀ e ∈ calls, e ≠ .intcRaise .P ∧ e ≠ .intcRaise .S) (e : Engine) :
    Event.intcRaise e ∉ calls := by
  intro hmem
  obtain ⟨hP, hS⟩ := h _ hmem
  cases e with
  | P => exact hP rfl
  | S => exact hS rfl

end Machine

end Sys2Proof

open Sys2Proof Sys2Proof.Machine

/-- Settles O30: a service that answers a fault has taken the fatal error of one sub-step, and a fatal sub-step made calls
and no more; `takeFatal` puts the engine back as it was, with the record. -/
theorem fatalServicesArePrecise : Obligations.FatalServicesArePrecise := by
  intro s t r hr
  constructor
  · intro hexec
    obtain rfl : runServiceP s = t := Host.Outcome.next.inj hexec
    obtain ⟨c, u, hfatal, htake⟩ := runServiceP_fault hr
    obtain ⟨x, calls, hcalls, hof, hmem, hspr, heng⟩ := serviceChannelP_fatal hfatal
    rw [htake, takeFatal_P]
    exact ⟨rfl, heng, hcalls.engS, hcalls.memS, fun a => by rw [hmem], fun a => by rw [hspr],
      calls, hcalls.log, intcRaise_notMem fun e he => (hof e he).2⟩
  · intro hexec
    obtain rfl : runServiceS s = t := Host.Outcome.next.inj hexec
    obtain ⟨c, u, hfatal, htake⟩ := runServiceS_fault hr
    obtain ⟨x, calls, hcalls, hof, hmem, heng⟩ := serviceChannelS_fatal hfatal
    rw [htake, takeFatal_S]
    exact ⟨rfl, heng, hcalls.engP, hcalls.memP, hcalls.spr, fun a => by rw [hmem],
      calls, hcalls.log, intcRaise_notMem fun e he => (hof e he).2⟩

/-- Settles O8, by the two cases of the list; an operation is then run as it decodes. -/
theorem stepRunsTheDecodedOperation : Obligations.StepRunsTheDecodedOperation := by
  intro s
  refine ⟨fun o rest hp => ⟨step_op hp, fun i hi => ?_, fun a w v ho hw => ?_⟩, step_nil⟩
  · rw [step_op hp, runOperation_ok hi]
  · rw [step_op hp, runOperation_error (decode_outside ho hw), rejectAccess]

end

section
/-! PROOFS. The independence of the engines (10_state.md R31): every part of a service of one engine, and every row of
its registers, commutes with the replacement of the other engine's part of the state. -/

namespace Sys2Proof.Machine

/-- A sub-step whose end is replaced by `f` of it. -/
def SubStep.mapState (f : State → State) : SubStep → SubStep
  | .done s => .done (f s)
  | .fatal r s => .fatal r (f s)

@[simp] theorem SubStep.mapState_done (f : State → State) (s : State) :
    (SubStep.done s).mapState f = .done (f s) := rfl

@[simp] theorem SubStep.mapState_fatal (f : State → State) (r : FaultRecord) (s : State) :
    (SubStep.fatal r s).mapState f = .fatal r (f s) := rfl

theorem SubStep.mapState_ite (f : State → State) (b : Prop) [Decidable b] (x y : SubStep) :
    (if b then x else y).mapState f = if b then x.mapState f else y.mapState f := apply_ite _ b x y

/-! ### Engine S replaced -/

section WithS

variable (c : PChan) (s t : State) (e : EngineS) (m : Memory) (p : Vector (List (PeerReply Word)) 13)

@[simp] theorem State.engP_withS : (s.withS e m p).engP = s.engP := rfl
@[simp] theorem State.cfg_withS : (s.withS e m p).cfg = s.cfg := rfl
@[simp] theorem State.pch_withS : (s.withS e m p).pch c = s.pch c := rfl

theorem State.ite_withS (b : Prop) [Decidable b] :
    (if b then s else t).withS e m p = if b then s.withS e m p else t.withS e m p :=
  apply_ite (State.withS · e m p) b s t

theorem halted_P_withS : halted .P (s.withS e m p) = halted .P s := rfl

/-- Replacing engine S's part by itself changes nothing. -/
@[simp] theorem State.withS_self : s.withS s.engS s.memS s.peersS = s := rfl

@[simp] theorem State.setPch_withS (x : PChannel) : (s.withS e m p).setPch c x = (s.setPch c x).withS e m p := rfl
@[simp] theorem State.setEngP_withS (x : EngineP) : (s.withS e m p).setEngP x = (s.setEngP x).withS e m p := rfl
@[simp] theorem State.respond_withS (r : Response) : (s.withS e m p).respond r = (s.respond r).withS e m p := rfl

@[simp] theorem busReadP_withS (a : Word) : busReadP (s.withS e m p) a = busReadP s a := rfl
@[simp] theorem afterBusReadP_withS (a : Word) :
    afterBusReadP a (s.withS e m p) = (afterBusReadP a s).withS e m p := rfl
@[simp] theorem busWriteP_withS (a : Word) (v : Quad) :
    busWriteP a v (s.withS e m p) = (busWriteP a v s).withS e m p := rfl
@[simp] theorem afterSprGet_withS : afterSprGet c (s.withS e m p) = (afterSprGet c s).withS e m p := rfl
@[simp] theorem sprPut_withS (v : Quad) : sprPut c v (s.withS e m p) = (sprPut c v s).withS e m p := rfl
@[simp] theorem answerP_withS : answerP (s.withS e m p) c = answerP s c := rfl

theorem dropAnswerP_withS : dropAnswerP c (s.withS e m p) = (dropAnswerP c s).withS e m p := by
  have hp : (s.withS e m p).peersP = s.peersP := rfl
  unfold dropAnswerP
  rw [hp]
  split <;> rfl

theorem afterCallP_withS (ev : Event) : afterCallP c ev (s.withS e m p) = (afterCallP c ev s).withS e m p := by
  unfold afterCallP
  rw [dropAnswerP_withS, answerP_withS]
  cases (answerP s c).request <;> rfl

@[simp] theorem afterPushP_withS (v : Quad) : afterPushP c v (s.withS e m p) = (afterPushP c v s).withS e m p :=
  afterCallP_withS c s e m p _

@[simp] theorem afterPopP_withS : afterPopP c (s.withS e m p) = (afterPopP c s).withS e m p :=
  afterCallP_withS c s e m p _

@[simp] theorem afterPushTagP_withS (v : Payload) :
    afterPushTagP c v (s.withS e m p) = (afterPushTagP c v s).withS e m p :=
  afterCallP_withS c s e m p _

@[simp] theorem reevalP_withS : reevalP (s.withS e m p) = (reevalP s).withS e m p := by
  rw [reevalP_eq, reevalP_eq]
  rfl

@[simp] theorem completeP_withS : completeP c (s.withS e m p) = (completeP c s).withS e m p := by
  simp only [completeP, State.pch_withS, State.setPch_withS, State.engP_withS, State.setEngP_withS, reevalP_withS]

@[simp] theorem zeroSegmentP_withS : zeroSegmentP c (s.withS e m p) = (zeroSegmentP c s).withS e m p := by
  simp only [zeroSegmentP, State.pch_withS, completeP_withS, State.setPch_withS, State.ite_withS]

@[simp] theorem endOfUnitP_withS : endOfUnitP c (s.withS e m p) = (endOfUnitP c s).withS e m p := by
  dsimp only [endOfUnitP, State.pch_withS, State.setPch_withS]
  rw [completeP_withS, State.ite_withS, State.ite_withS]
  rfl

@[simp] theorem unitFromPeerP_withS : unitFromPeerP (s.withS e m p) c = unitFromPeerP s c := rfl

@[simp] theorem afterUnitFromPeerP_withS :
    afterUnitFromPeerP c (s.withS e m p) = (afterUnitFromPeerP c s).withS e m p := by
  simp only [afterUnitFromPeerP, afterSprGet_withS, afterPopP_withS, State.ite_withS]

theorem transferToPeerP_withS :
    transferToPeerP c (s.withS e m p) = (transferToPeerP c s).mapState (·.withS e m p) := by
  simp only [transferToPeerP, State.pch_withS, busReadP_withS, afterBusReadP_withS, sprPut_withS, endOfUnitP_withS,
    answerP_withS, afterPushP_withS, SubStep.mapState_ite, SubStep.mapState_done, SubStep.mapState_fatal]

theorem transferToMemoryP_withS :
    transferToMemoryP c (s.withS e m p) = (transferToMemoryP c s).mapState (·.withS e m p) := by
  unfold transferToMemoryP
  simp only [State.pch_withS, unitFromPeerP_withS, afterUnitFromPeerP_withS, busWriteP_withS, endOfUnitP_withS]
  cases unitFromPeerP s c <;> rfl

theorem transferUnitP_withS :
    transferUnitP c (s.withS e m p) = (transferUnitP c s).mapState (·.withS e m p) := by
  simp only [transferUnitP, State.pch_withS, transferToPeerP_withS, transferToMemoryP_withS, SubStep.mapState_ite]

@[simp] theorem writeDecodedP_withS (g : Quad) (r : TagResult) :
    writeDecodedP c g r (s.withS e m p) = (writeDecodedP c g r s).withS e m p := rfl

@[simp] theorem endDecodeP_withS (q : BitVec 16) :
    endDecodeP c q (s.withS e m p) = (endDecodeP c q s).mapState (·.withS e m p) := by
  simp only [endDecodeP, zeroSegmentP_withS, SubStep.mapState_done, State.ite_withS]

theorem forwardTagP_withS (g : Quad) (q : BitVec 16) :
    forwardTagP c g (endDecodeP c q) (s.withS e m p) =
      (forwardTagP c g (endDecodeP c q) s).mapState (·.withS e m p) := by
  simp only [forwardTagP, State.cfg_withS, answerP_withS, afterPushTagP_withS, endDecodeP_withS,
    SubStep.mapState_ite, SubStep.mapState_fatal]

theorem commitTagP_withS (fam : TagFamily) (g : Quad) (res : Option TagResult) :
    commitTagP fam c g res (s.withS e m p) = (commitTagP fam c g res s).mapState (·.withS e m p) := by
  cases res with
  | none => rfl
  | some r =>
    simp only [commitTagP, State.pch_withS, writeDecodedP_withS, forwardTagP_withS, endDecodeP_withS,
      SubStep.mapState_ite]

theorem afterFetchTagP_withS : afterFetchTagP c (s.withS e m p) = (afterFetchTagP c s).withS e m p := by
  simp only [afterFetchTagP, State.cfg_withS, afterUnitFromPeerP_withS, State.pch_withS, afterBusReadP_withS,
    State.ite_withS]

theorem decodeStepP_withS :
    decodeStepP c (s.withS e m p) = (decodeStepP c s).mapState (·.withS e m p) := by
  have hf : fetchTagP (s.withS e m p) c = fetchTagP s c := rfl
  have hfam : familyP (s.withS e m p) c = familyP s c := rfl
  unfold decodeStepP
  simp only [hf, hfam, afterFetchTagP_withS, State.pch_withS, commitTagP_withS]
  cases fetchTagP s c <;> rfl

theorem serviceChannelP_withS :
    serviceChannelP c (s.withS e m p) = (serviceChannelP c s).mapState (·.withS e m p) := by
  simp only [serviceChannelP, normalStepP, chainStepP, State.pch_withS, completeP_withS, transferUnitP_withS,
    decodeStepP_withS]
  cases pMode (s.pch c).chcr <;>
    simp only [SubStep.mapState_ite, SubStep.mapState_done, SubStep.mapState_fatal]

theorem settleP_withS (sub : SubStep) :
    settle .P c.val (s.withS e m p) (sub.mapState (·.withS e m p)) = (settle .P c.val s sub).withS e m p := by
  cases sub <;> rfl

theorem runServiceP_withS : runServiceP (s.withS e m p) = (runServiceP s).withS e m p := by
  have hsel : selectP (s.withS e m p) = selectP s := rfl
  unfold runServiceP
  rw [hsel]
  cases selectP s with
  | none =>
    rw [State.ite_withS, State.ite_withS]
    rfl
  | some c =>
    simp only [halted_P_withS, State.engP_withS, serviceChannelP_withS, settleP_withS, State.respond_withS,
      State.ite_withS]

theorem runTagP_withS (fam : TagFamily) (g : Quad) (res : Option TagResult) :
    runTagP fam c g res (s.withS e m p) = (runTagP fam c g res s).withS e m p := by
  simp only [runTagP, halted_P_withS, commitTagP_withS, settleP_withS, State.respond_withS,
    State.ite_withS]

theorem readReg_P_withS (v : Word) : readReg .P v (s.withS e m p) = (readReg .P v s).withS e m p := by
  unfold readReg
  rw [State.ite_withS]
  rfl

theorem writeReg_P_withS :
    writeReg .P (t.withS e m p) (s.withS e m p) = (writeReg .P t s).withS e m p := by
  unfold writeReg
  rw [State.ite_withS]
  rfl

end WithS

/-! ### Engine P replaced -/

section WithP

variable (c : SChan) (s t : State) (e : EngineP) (m spr : Memory) (p : Vector (List (PeerReply Quad)) 10)

@[simp] theorem State.engS_withP : (s.withP e m spr p).engS = s.engS := rfl
@[simp] theorem State.cfg_withP : (s.withP e m spr p).cfg = s.cfg := rfl
@[simp] theorem State.sch_withP : (s.withP e m spr p).sch c = s.sch c := rfl

theorem State.ite_withP (b : Prop) [Decidable b] :
    (if b then s else t).withP e m spr p = if b then s.withP e m spr p else t.withP e m spr p :=
  apply_ite (State.withP · e m spr p) b s t

theorem halted_S_withP : halted .S (s.withP e m spr p) = halted .S s := rfl

/-- Replacing engine P's part by itself changes nothing. -/
@[simp] theorem State.withP_self : s.withP s.engP s.memP s.spr s.peersP = s := rfl

@[simp] theorem State.setSch_withP (x : SChannel) :
    (s.withP e m spr p).setSch c x = (s.setSch c x).withP e m spr p := rfl
@[simp] theorem State.setEngS_withP (x : EngineS) :
    (s.withP e m spr p).setEngS x = (s.setEngS x).withP e m spr p := rfl
@[simp] theorem State.respond_withP (r : Response) :
    (s.withP e m spr p).respond r = (s.respond r).withP e m spr p := rfl

@[simp] theorem busReadS_withP (a : AddrS) : busReadS (s.withP e m spr p) a = busReadS s a := rfl
@[simp] theorem afterBusReadS_withP (a : AddrS) :
    afterBusReadS a (s.withP e m spr p) = (afterBusReadS a s).withP e m spr p := rfl
@[simp] theorem busWriteS_withP (a : AddrS) (v : Word) :
    busWriteS a v (s.withP e m spr p) = (busWriteS a v s).withP e m spr p := rfl
@[simp] theorem answerS_withP : answerS (s.withP e m spr p) c = answerS s c := rfl

theorem dropAnswerS_withP : dropAnswerS c (s.withP e m spr p) = (dropAnswerS c s).withP e m spr p := by
  have hp : (s.withP e m spr p).peersS = s.peersS := rfl
  unfold dropAnswerS
  rw [hp]
  split <;> rfl

theorem afterCallS_withP (ev : Event) :
    afterCallS c ev (s.withP e m spr p) = (afterCallS c ev s).withP e m spr p := by
  unfold afterCallS
  rw [dropAnswerS_withP, answerS_withP]
  cases (answerS s c).request <;> rfl

@[simp] theorem afterPushS_withP (v : Word) :
    afterPushS c v (s.withP e m spr p) = (afterPushS c v s).withP e m spr p :=
  afterCallS_withP c s e m spr p _

@[simp] theorem afterPopS_withP : afterPopS c (s.withP e m spr p) = (afterPopS c s).withP e m spr p :=
  afterCallS_withP c s e m spr p _

@[simp] theorem reevalS_withP : reevalS (s.withP e m spr p) = (reevalS s).withP e m spr p := by
  rw [reevalS_eq, reevalS_eq]
  rfl

@[simp] theorem completeS_withP : completeS c (s.withP e m spr p) = (completeS c s).withP e m spr p := by
  simp only [completeS, State.sch_withP, State.setSch_withP, State.engS_withP, State.setEngS_withP, reevalS_withP]

@[simp] theorem endOfWordS_withP : endOfWordS c (s.withP e m spr p) = (endOfWordS c s).withP e m spr p := by
  dsimp only [endOfWordS, State.sch_withP, State.setSch_withP]
  rw [completeS_withP, State.ite_withP, State.ite_withP]
  rfl

theorem transferToPeerS_withP :
    transferToPeerS c (s.withP e m spr p) = (transferToPeerS c s).mapState (·.withP e m spr p) := by
  simp only [transferToPeerS, State.sch_withP, busReadS_withP, afterBusReadS_withP, endOfWordS_withP, answerS_withP,
    afterPushS_withP, SubStep.mapState_ite, SubStep.mapState_done, SubStep.mapState_fatal]

theorem transferToMemoryS_withP :
    transferToMemoryS c (s.withP e m spr p) = (transferToMemoryS c s).mapState (·.withP e m spr p) := by
  unfold transferToMemoryS
  simp only [State.sch_withP, answerS_withP, afterPopS_withP, busWriteS_withP, endOfWordS_withP]
  cases (answerS s c).unit <;> rfl

theorem transferWordS_withP :
    transferWordS c (s.withP e m spr p) = (transferWordS c s).mapState (·.withP e m spr p) := by
  simp only [transferWordS, State.sch_withP, transferToPeerS_withP, transferToMemoryS_withP, SubStep.mapState_ite]

theorem sliceStepS_withP :
    sliceStepS c (s.withP e m spr p) = (sliceStepS c s).mapState (·.withP e m spr p) := by
  have hact : activateSliceS c (s.withP e m spr p) = (activateSliceS c s).withP e m spr p := rfl
  simp only [sliceStepS, State.sch_withP, hact, ← State.ite_withP, completeS_withP, transferWordS_withP,
    SubStep.mapState_ite, SubStep.mapState_done]

theorem commitTagS_withP (g : STag) :
    commitTagS c g (s.withP e m spr p) = (commitTagS c g s).mapState (·.withP e m spr p) := by
  dsimp only [commitTagS]
  rw [decodeS_eq, decodeS_eq]
  dsimp only [State.cfg_withP, State.sch_withP, State.setSch_withP, SubStep.mapState_done]
  rw [completeS_withP, State.ite_withP, State.ite_withP]
  rfl

theorem tagFromMemoryS_withP :
    tagFromMemoryS c (s.withP e m spr p) = (tagFromMemoryS c s).mapState (·.withP e m spr p) := by
  simp only [tagFromMemoryS, State.sch_withP, busReadS_withP, afterBusReadS_withP, commitTagS_withP]

theorem tagFromPeerS_withP :
    tagFromPeerS c (s.withP e m spr p) = (tagFromPeerS c s).mapState (·.withP e m spr p) := by
  unfold tagFromPeerS
  simp only [answerS_withP, afterPopS_withP, State.sch_withP, commitTagS_withP, State.setSch_withP]
  cases (answerS s c).unit with
  | none => rfl
  | some w => simp only [SubStep.mapState_ite, SubStep.mapState_done]

theorem chainStepS_withP :
    chainStepS c (s.withP e m spr p) = (chainStepS c s).mapState (·.withP e m spr p) := by
  simp only [chainStepS, tagStepS, State.sch_withP, State.cfg_withP, transferWordS_withP, completeS_withP,
    tagFromPeerS_withP, tagFromMemoryS_withP, SubStep.mapState_ite, SubStep.mapState_done]

theorem modeCheckS_withP :
    modeCheckS c (s.withP e m spr p) = (modeCheckS c s).mapState (·.withP e m spr p) := by
  simp only [modeCheckS, State.sch_withP, sliceStepS_withP, chainStepS_withP]
  cases sMode (s.sch c).chcr <;> simp only [SubStep.mapState_ite, SubStep.mapState_fatal]

theorem serviceChannelS_withP :
    serviceChannelS c (s.withP e m spr p) = (serviceChannelS c s).mapState (·.withP e m spr p) := by
  simp only [serviceChannelS, State.cfg_withP, State.sch_withP, modeCheckS_withP, SubStep.mapState_ite,
    SubStep.mapState_fatal]

theorem settleS_withP (sub : SubStep) :
    settle .S c.val (s.withP e m spr p) (sub.mapState (·.withP e m spr p)) =
      (settle .S c.val s sub).withP e m spr p := by
  cases sub <;> rfl

theorem runServiceS_withP : runServiceS (s.withP e m spr p) = (runServiceS s).withP e m spr p := by
  have hsel : selectS (s.withP e m spr p) = selectS s := rfl
  unfold runServiceS
  rw [hsel]
  cases selectS s with
  | none =>
    rw [State.ite_withP, State.ite_withP]
    rfl
  | some c =>
    simp only [halted_S_withP, State.engS_withP, serviceChannelS_withP, settleS_withP, State.respond_withP,
      State.ite_withP]

theorem runTagS_withP (g : STag) : runTagS c g (s.withP e m spr p) = (runTagS c g s).withP e m spr p := by
  simp only [runTagS, halted_S_withP, commitTagS_withP, settleS_withP, State.respond_withP, State.ite_withP]

theorem readReg_S_withP (v : Word) : readReg .S v (s.withP e m spr p) = (readReg .S v s).withP e m spr p := by
  unfold readReg
  rw [State.ite_withP]
  rfl

theorem writeReg_S_withP :
    writeReg .S (t.withP e m spr p) (s.withP e m spr p) = (writeReg .S t s).withP e m spr p := by
  unfold writeReg
  rw [State.ite_withP]
  rfl

end WithP

end Sys2Proof.Machine
end

section
/-! PROOFS. What an instruction does, said once (`Conduct`): its engine, its state function, that the function commutes
with the replacement of the other engine, keeps the invariant, and leaves a halted engine as it is. -/

namespace Sys2Proof.Machine

/-! ### The invariant by its parts -/

/-- Engine P's part of the invariant (R145, R402, R412). -/
structure EngineP.Inv (e : EngineP) : Prop where
  sound : ∀ c : PChan, e.ch[c].sound = true
  master : e.master = masterP e.cis e.cim
  fault : faultSound .P e.fault = true

/-- Engine S's part of the invariant (R348, R402, R417). -/
structure EngineS.Inv (e : EngineS) : Prop where
  sound : ∀ c : SChan, e.ch[c].sound = true
  mif : e.mif = masterS e
  fault : faultSound .S e.fault = true

variable {s t : State}

theorem State.Inv.engineP (h : s.Inv) : s.engP.Inv := ⟨h.pSound, h.pMaster, h.pFault⟩

theorem State.Inv.engineS (h : s.Inv) : s.engS.Inv := ⟨h.sSound, h.sMaster, h.sFault⟩

theorem State.Inv.setEngP (h : s.Inv) {e : EngineP} (he : e.Inv) : (s.setEngP e).Inv :=
  ⟨he.sound, h.sSound, he.master, h.sMaster, he.fault, h.sFault, h.memP, h.memS, h.spr⟩

theorem State.Inv.setEngS (h : s.Inv) {e : EngineS} (he : e.Inv) : (s.setEngS e).Inv :=
  ⟨h.pSound, he.sound, h.pMaster, he.mif, h.pFault, he.fault, h.memP, h.memS, h.spr⟩

theorem State.Inv.setPch (h : s.Inv) (c : PChan) {x : PChannel} (hx : x.sound = true) : (s.setPch c x).Inv :=
  h.setEngP ⟨fun d => by
    show ((s.setPch c x).pch d).sound = true
    rw [State.pch_setPch]
    split
    · exact hx
    · exact h.pSound d, h.pMaster, h.pFault⟩

theorem State.Inv.setSch (h : s.Inv) (c : SChan) {x : SChannel} (hx : x.sound = true) : (s.setSch c x).Inv :=
  h.setEngS ⟨fun d => by
    show ((s.setSch c x).sch d).sound = true
    rw [State.sch_setSch]
    split
    · exact hx
    · exact h.sSound d, h.sMaster, h.sFault⟩

/-- The log, the answer and the host's order are no part of the invariant. -/
theorem State.Inv.of_core_eq (h : s.Inv) (hP : t.engP = s.engP) (hS : t.engS = s.engS) (hmP : t.memP = s.memP)
    (hmS : t.memS = s.memS) (hspr : t.spr = s.spr) : t.Inv := by
  have he : s.engP.Inv ∧ s.engS.Inv := ⟨h.engineP, h.engineS⟩
  rw [← hP, ← hS] at he
  exact ⟨he.1.sound, he.2.sound, he.1.master, he.2.mif, he.1.fault, he.2.fault, hmP ▸ h.memP, hmS ▸ h.memS,
    hspr ▸ h.spr⟩

theorem State.Inv.respond (h : s.Inv) (r : Response) : (s.respond r).Inv := h.of_core_eq rfl rfl rfl rfl rfl

theorem State.Inv.setPending (h : s.Inv) (l : List Pending) : (s.setPending l).Inv :=
  h.of_core_eq rfl rfl rfl rfl rfl

theorem State.Inv.setMemP (h : s.Inv) {m : Memory} (hm : m.wf = true ∧ m.below (2 ^ 32) = true) : (s.setMemP m).Inv :=
  ⟨h.pSound, h.sSound, h.pMaster, h.sMaster, h.pFault, h.sFault, hm, h.memS, h.spr⟩

theorem State.Inv.setMemS (h : s.Inv) {m : Memory} (hm : m.wf = true ∧ m.below (2 ^ 24) = true) : (s.setMemS m).Inv :=
  ⟨h.pSound, h.sSound, h.pMaster, h.sMaster, h.pFault, h.sFault, h.memP, hm, h.spr⟩

theorem State.Inv.setSpr (h : s.Inv) {m : Memory} (hm : m.wf = true ∧ m.below (2 ^ 14) = true) : (s.setSpr m).Inv :=
  ⟨h.pSound, h.sSound, h.pMaster, h.sMaster, h.pFault, h.sFault, h.memP, h.memS, hm⟩

theorem State.Inv.readReg (h : s.Inv) (e : Engine) (v : Word) : (readReg e v s).Inv := by
  unfold Machine.readReg
  split <;> exact h.respond _

theorem State.Inv.writeReg (h : s.Inv) (ht : t.Inv) (e : Engine) : (writeReg e t s).Inv := by
  unfold Machine.writeReg
  split
  · exact h.respond _
  · exact ht.respond _

/-- A re-evaluation restores the master flag's part of the invariant (R410, R412). -/
theorem State.Inv.reevalP_setEngP (h : s.Inv) {e : EngineP} (hsound : ∀ c : PChan, e.ch[c].sound = true)
    (hfault : faultSound .P e.fault = true) : (reevalP (s.setEngP e)).Inv := by
  rw [reevalP_eq]
  exact ⟨hsound, h.sSound, rfl, h.sMaster, hfault, h.sFault, h.memP, h.memS, h.spr⟩

/-- The same for engine S (R415, R417). -/
theorem State.Inv.reevalS_setEngS (h : s.Inv) {e : EngineS} (hsound : ∀ c : SChan, e.ch[c].sound = true)
    (hfault : faultSound .S e.fault = true) : (reevalS (s.setEngS e)).Inv := by
  rw [reevalS_eq]
  exact ⟨h.pSound, hsound, h.pMaster, rfl, h.pFault, hfault, h.memP, h.memS, h.spr⟩

theorem faultSound_some {e : Engine} {r : FaultRecord} (he : r.engine = e) (hc : r.code ≠ .invariant) :
    faultSound e (some r) = true := by
  cases e <;> simp [faultSound, he, hc]

/-- A fatal error keeps the invariant: the engine is the one before the operation, plus a record of its own (R402). -/
theorem State.Inv.takeFatal (h : s.Inv) {e : Engine} {r : FaultRecord} (he : r.engine = e) (hc : r.code ≠ .invariant) :
    (takeFatal e s s r).Inv := by
  have hf := faultSound_some he hc
  cases e with
  | P =>
    have he : EngineP.Inv { s.engP with fault := some r } := ⟨h.pSound, h.pMaster, hf⟩
    exact (h.setEngP he).respond _
  | S =>
    have he : EngineS.Inv { s.engS with fault := some r } := ⟨h.sSound, h.sMaster, hf⟩
    exact (h.setEngS he).respond _

theorem PChannel.reset_sound (drq : Bool) : (PChannel.reset drq).sound = true := by
  simp [PChannel.reset, PChannel.sound]

theorem SChannel.reset_sound (drq : Bool) : (SChannel.reset drq).sound = true := by
  simp [SChannel.reset, SChannel.sound]

theorem EngineP.reset_inv (cfg : Config) : (EngineP.reset cfg).Inv where
  sound c := by rw [EngineP.reset_ch]; exact PChannel.reset_sound _
  master := by simp [EngineP.reset, masterP]
  fault := rfl

theorem EngineS.reset_inv (cfg : Config) : (EngineS.reset cfg).Inv where
  sound c := by rw [EngineS.reset_ch]; exact SChannel.reset_sound _
  mif := by simp [EngineS.reset, masterS]
  fault := rfl

/-! ### Services keep the invariant -/

theorem completed_reserved {v : Word} (h : v &&& ~~~pChcrMask = 0) : v &&& 0xFFFFFEFF &&& ~~~pChcrMask = 0 := by
  rw [BitVec.and_assoc, BitVec.and_comm 0xFFFFFEFF, ← BitVec.and_assoc, h]
  exact BitVec.zero_and

theorem EndsP.keepsInv {c : PChan} {x : PChannel} {fin : Bool} {calls : List Event} (h : EndsP c x fin calls s t)
    (hs : s.Inv)
    (hx : x.chcr &&& ~~~pChcrMask = 0 ∧ (fin = false → x.chainEnded = true → x.hasTag = true))
    (hmem : t.memP.wf = true ∧ t.memP.below (2 ^ 32) = true) (hspr : t.spr.wf = true ∧ t.spr.below (2 ^ 14) = true) :
    t.Inv := by
  obtain ⟨hres, htag⟩ := hx
  have heS : t.engS.Inv := h.engS ▸ hs.engineS
  have hc : (t.pch c).sound = true := by
    rw [h.channel, PChannel.sound_iff]
    cases fin with
    | false => exact ⟨hres, htag rfl⟩
    | true => exact ⟨completed_reserved hres, by simp⟩
  have hmaster : t.engP.master = masterP t.engP.cis t.engP.cim := by
    rw [h.master]
    cases fin with
    | true => rfl
    | false =>
      have hcis : t.engP.cis = s.engP.cis := BitVec.eq_of_getLsbD_eq fun i _ => by simp [h.cis i]
      rw [hcis, h.cim]
      exact hs.pMaster
  refine ⟨fun d => ?_, heS.sound, hmaster, heS.mif, h.fault ▸ hs.pFault, heS.fault, hmem, h.memS ▸ hs.memS, hspr⟩
  by_cases hd : d = c
  · exact hd ▸ hc
  · rw [h.others d hd]
    exact hs.pSound d

/-- A sub-step of engine P, done or fatal, keeps the invariant. -/
theorem SubStep.okP.settle_inv {c : PChan} {sub : SubStep} (h : sub.okP c s) (hs : s.Inv) :
    (settle .P c.val s sub).Inv := by
  cases sub with
  | done u =>
    obtain ⟨x, fin, calls, hends, -, hmem, hspr, hx⟩ := h
    exact hends.keepsInv hs (hx (hs.pSound c)) (hmem hs.memP) (hspr hs.spr)
  | fatal r u =>
    obtain ⟨x, calls, hcalls, -, hmem, hspr, heng, hcode, -⟩ := h
    exact (hs.takeFatal heng hcode).of_core_eq rfl hcalls.engS hmem hcalls.memS hspr

theorem EndsS.keepsInv {c : SChan} {x : SChannel} {fin : Bool} {calls : List Event} (h : EndsS c x fin calls s t)
    (hs : s.Inv) (hx : fin = false → x.sound = true)
    (hmem : t.memS.wf = true ∧ t.memS.below (2 ^ 24) = true) : t.Inv := by
  have heP : t.engP.Inv := h.engP ▸ hs.engineP
  have hc : (t.sch c).sound = true := by
    rw [h.channel]
    cases fin with
    | false => exact hx rfl
    | true => simp [SChannel.sound]
  have hmif : t.engS.mif = masterS t.engS := by
    rw [h.mif]
    cases fin with
    | true => simp only [masterS, pending_or_ne_zero, if_true]
    | false =>
      obtain ⟨hbe, him1, hmie, him2, hint⟩ := h.masks
      have hip1 : t.engS.ip1 = s.engS.ip1 := BitVec.eq_of_getLsbD_eq fun i _ => by simp [h.ip1 i]
      have hip2 : t.engS.ip2 = s.engS.ip2 := BitVec.eq_of_getLsbD_eq fun i _ => by simp [h.ip2 i]
      have htip : t.engS.tip = s.engS.tip := BitVec.eq_of_getLsbD_eq fun i _ => by simp [h.tip i]
      simp only [masterS, hbe, hmie, hip1, hip2, htip]
      exact hs.sMaster
  refine ⟨heP.sound, fun d => ?_, heP.master, hmif, heP.fault, h.fault ▸ hs.sFault, h.memP ▸ hs.memP, hmem,
    h.spr ▸ hs.spr⟩
  by_cases hd : d = c
  · exact hd ▸ hc
  · rw [h.others d hd]
    exact hs.sSound d

/-- A sub-step of engine S, done or fatal, keeps the invariant. -/
theorem SubStep.okS.settle_inv {c : SChan} {sub : SubStep} (h : sub.okS c s) (hs : s.Inv) :
    (settle .S c.val s sub).Inv := by
  cases sub with
  | done u =>
    obtain ⟨x, fin, calls, hends, -, hmem, hx⟩ := h
    exact hends.keepsInv hs (hx (hs.sSound c)) (hmem hs.memS)
  | fatal r u =>
    obtain ⟨x, calls, hcalls, -, hmem, heng, hcode, -⟩ := h
    exact (hs.takeFatal heng hcode).of_core_eq hcalls.engP rfl hcalls.memP hmem hcalls.spr

theorem State.Inv.runServiceP (h : s.Inv) : (runServiceP s).Inv := by
  rcases runServiceP_cases s with ⟨he, -⟩ | he | ⟨c, -, he⟩ <;> rw [he]
  case inl => exact h.respond _
  case inr.inl => exact h.respond _
  case inr.inr => exact (serviceChannelP_okP c s).settle_inv h

theorem State.Inv.runServiceS (h : s.Inv) : (runServiceS s).Inv := by
  rcases runServiceS_cases s with ⟨he, -⟩ | he | ⟨c, -, he⟩ <;> rw [he]
  case inl => exact h.respond _
  case inr.inl => exact h.respond _
  case inr.inr => exact (serviceChannelS_okS c s).settle_inv h

theorem State.Inv.runTagP (h : s.Inv) (fam : TagFamily) (c : PChan) (g : Quad) (res : Option TagResult) :
    (runTagP fam c g res s).Inv := by
  unfold Machine.runTagP
  split
  · exact h.respond _
  · exact (commitTagP_okP (CallsP.refl c s) fam g res (by simp) rfl rfl id).settle_inv h

theorem State.Inv.runTagS (h : s.Inv) (c : SChan) (g : STag) : (runTagS c g s).Inv := by
  unfold Machine.runTagS
  split
  · exact h.respond _
  · exact ((CallsS.refl c s).commitTag_okS (by simp) rfl g).settle_inv h

/-! ### What an instruction of an engine does -/

/-- A state function of engine e commutes with the replacement of the other engine's part of the state (R31). -/
def Isolated (e : Engine) (f : State → State) : Prop :=
  match e with
  | .P => ∀ s e m p, f (s.withS e m p) = (f s).withS e m p
  | .S => ∀ s e m spr p, f (s.withP e m spr p) = (f s).withP e m spr p

/-- Engine e of t is that of s, its request flags apart (R403). -/
def Held (e : Engine) (s t : State) : Prop :=
  match e with
  | .P => t.engP = { s.engP with ch := t.engP.ch } ∧ ∀ c, t.pch c = { s.pch c with drq := (t.pch c).drq }
  | .S => t.engS = { s.engS with ch := t.engS.ch } ∧ ∀ c, t.sch c = { s.sch c with drq := (t.sch c).drq }

/-- The instruction that ends the halt of an engine (R403, R460). -/
def resetInstr : Engine → Instr
  | .P => .resetP
  | .S => .resetS

/-- Instruction i belongs to engine e and is the state function f, which is isolated, keeps the invariant, and leaves
its engine as it is while halted, RESET apart (R31, R403). -/
structure Conduct (i : Instr) (e : Engine) (f : State → State) : Prop where
  engine : instrEngine i = some e
  run : ∀ s, exec i s = .next (f s)
  isolated : Isolated e f
  keepsInv : ∀ s, s.Inv → (f s).Inv
  held : i ≠ resetInstr e → ∀ s, halted e s = true → Held e s (f s)

theorem Held.of_engP (h : t.engP = s.engP) : Held .P s t := by
  have hc : ∀ c, t.pch c = s.pch c := fun c => congrArg (fun e : EngineP => e.ch[c]) h
  exact ⟨by rw [h], fun c => by rw [hc c]⟩

theorem Held.of_engS (h : t.engS = s.engS) : Held .S s t := by
  have hc : ∀ c, t.sch c = s.sch c := fun c => congrArg (fun e : EngineS => e.ch[c]) h
  exact ⟨by rw [h], fun c => by rw [hc c]⟩

theorem Held.of_eq (e : Engine) (hP : t.engP = s.engP) (hS : t.engS = s.engS) : Held e s t := by
  cases e with
  | P => exact .of_engP hP
  | S => exact .of_engS hS

theorem Held.respond (e : Engine) (s : State) (r : Response) : Held e s (s.respond r) := .of_eq e rfl rfl

/-- What engine P does leaves engine S, its memory and its peers as they are: replace them by themselves. -/
theorem Isolated.frame_P {f : State → State} (h : Isolated .P f) (s : State) :
    (f s).engS = s.engS ∧ (f s).memS = s.memS ∧ (f s).peersS = s.peersS := by
  have he : f s = (f s).withS s.engS s.memS s.peersS := by rw [← h s, State.withS_self]
  rw [he]
  exact ⟨rfl, rfl, rfl⟩

/-- What engine S does leaves engine P, its memory, the scratchpad and its peers as they are. -/
theorem Isolated.frame_S {f : State → State} (h : Isolated .S f) (s : State) :
    (f s).engP = s.engP ∧ (f s).memP = s.memP ∧ (f s).spr = s.spr ∧ (f s).peersP = s.peersP := by
  have he : f s = (f s).withP s.engP s.memP s.spr s.peersP := by rw [← h s, State.withP_self]
  rw [he]
  exact ⟨rfl, rfl, rfl, rfl⟩

/-- What one engine does holds the other. -/
theorem Isolated.held_other {e e' : Engine} {f : State → State} (h : Isolated e f) (hne : e ≠ e') (s : State) :
    Held e' s (f s) := by
  cases e <;> cases e'
  case P.P => exact absurd rfl hne
  case P.S => exact .of_engS (h.frame_P s).1
  case S.P => exact .of_engP (h.frame_S s).1
  case S.S => exact absurd rfl hne

/-! ### Each family of instructions -/

theorem Conduct.readP {i : Instr} {v : State → Word} (he : instrEngine i = some .P)
    (hrun : ∀ s, exec i s = .next (readReg .P (v s) s)) (hv : ∀ s e m p, v (s.withS e m p) = v s) :
    Conduct i .P fun s => Machine.readReg .P (v s) s where
  engine := he
  run := hrun
  isolated s e m p := by dsimp only; rw [hv, readReg_P_withS]
  keepsInv s hs := hs.readReg _ _
  held _ s h := by rw [readReg_noStep _ h]; exact .respond _ _ _

theorem Conduct.readS {i : Instr} {v : State → Word} (he : instrEngine i = some .S)
    (hrun : ∀ s, exec i s = .next (readReg .S (v s) s)) (hv : ∀ s e m spr p, v (s.withP e m spr p) = v s) :
    Conduct i .S fun s => Machine.readReg .S (v s) s where
  engine := he
  run := hrun
  isolated s e m spr p := by dsimp only; rw [hv, readReg_S_withP]
  keepsInv s hs := hs.readReg _ _
  held _ s h := by rw [readReg_noStep _ h]; exact .respond _ _ _

/-- What a register write of engine e stores: isolated, and sound from a sound state. -/
structure Stores (e : Engine) (f : State → State) : Prop where
  isolated : Isolated e f
  keepsInv : ∀ s, s.Inv → (f s).Inv

theorem Conduct.writeP {i : Instr} {f : State → State} (he : instrEngine i = some .P)
    (hrun : ∀ s, exec i s = .next (writeReg .P (f s) s)) (hf : Stores .P f) :
    Conduct i .P fun s => Machine.writeReg .P (f s) s where
  engine := he
  run := hrun
  isolated s e m p := by dsimp only; rw [hf.isolated s e m p, writeReg_P_withS]
  keepsInv s hs := hs.writeReg (hf.keepsInv s hs) _
  held _ s h := by rw [writeReg_noStep _ h]; exact .respond _ _ _

theorem Conduct.writeS {i : Instr} {f : State → State} (he : instrEngine i = some .S)
    (hrun : ∀ s, exec i s = .next (writeReg .S (f s) s)) (hf : Stores .S f) :
    Conduct i .S fun s => Machine.writeReg .S (f s) s where
  engine := he
  run := hrun
  isolated s e m spr p := by dsimp only; rw [hf.isolated s e m spr p, writeReg_S_withP]
  keepsInv s hs := hs.writeReg (hf.keepsInv s hs) _
  held _ s h := by rw [writeReg_noStep _ h]; exact .respond _ _ _

/-- A write of one channel of engine P stores the channel under g. -/
theorem Stores.pch (c : PChan) (g : PChannel → PChannel) (hg : ∀ x, x.sound = true → (g x).sound = true) :
    Stores .P fun s => s.setPch c (g (s.pch c)) where
  isolated _ _ _ _ := rfl
  keepsInv _ hs := hs.setPch c (hg _ (hs.pSound c))

theorem Stores.sch (c : SChan) (g : SChannel → SChannel) (hg : ∀ x, x.sound = true → (g x).sound = true) :
    Stores .S fun s => s.setSch c (g (s.sch c)) where
  isolated _ _ _ _ _ := rfl
  keepsInv _ hs := hs.setSch c (hg _ (hs.sSound c))

/-- A write of an engine-wide register stores the engine under g. -/
theorem Stores.engP (g : EngineP → EngineP) (hg : ∀ e, e.Inv → (g e).Inv) :
    Stores .P fun s => s.setEngP (g s.engP) where
  isolated _ _ _ _ := rfl
  keepsInv _ hs := hs.setEngP (hg _ hs.engineP)

theorem Stores.engS (g : EngineS → EngineS) (hg : ∀ e, e.Inv → (g e).Inv) :
    Stores .S fun s => s.setEngS (g s.engS) where
  isolated _ _ _ _ _ := rfl
  keepsInv _ hs := hs.setEngS (hg _ hs.engineS)

/-- A write of an interrupt register re-evaluates the master flag (R209). -/
theorem Stores.reevalP (g : EngineP → EngineP) (hch : ∀ e, (g e).ch = e.ch) (hfault : ∀ e, (g e).fault = e.fault) :
    Stores .P fun s => Machine.reevalP (s.setEngP (g s.engP)) where
  isolated s e m p := reevalP_withS (s.setEngP (g s.engP)) e m p
  keepsInv s hs := hs.reevalP_setEngP (fun c => by rw [hch]; exact hs.pSound c) (by rw [hfault]; exact hs.pFault)

/-- The same for engine S (R233, R235). -/
theorem Stores.reevalS (g : EngineS → EngineS) (hch : ∀ e, (g e).ch = e.ch) (hfault : ∀ e, (g e).fault = e.fault) :
    Stores .S fun s => Machine.reevalS (s.setEngS (g s.engS)) where
  isolated s e m spr p := reevalS_withP (s.setEngS (g s.engS)) e m spr p
  keepsInv s hs := hs.reevalS_setEngS (fun c => by rw [hch]; exact hs.sSound c) (by rw [hfault]; exact hs.sFault)

theorem Stores.bcr (c : SChan) (k : Nat) (w : AccessWidth) (v : Word) :
    Stores .S fun s => s.setSch c { s.sch c with bcr := bcrWrite (s.sch c).bcr k w v } :=
  .sch c (fun x => { x with bcr := bcrWrite x.bcr k w v }) fun _ => id

/-- The channel that a write of P.CHCR leaves (R195). -/
def PChannel.chcrWritten (x : PChannel) (v : Word) : PChannel :=
  { (if !pStr x.chcr && pStr v then { x with hasTag := false, chainEnded := false } else x) with
    chcr := v &&& pChcrMask }

theorem PChannel.chcrWritten_sound {x : PChannel} (hx : x.sound = true) (v : Word) :
    (x.chcrWritten v).sound = true := by
  obtain ⟨-, htag⟩ := (PChannel.sound_iff x).1 hx
  have hres : v &&& pChcrMask &&& ~~~pChcrMask = 0 := by
    rw [BitVec.and_assoc, BitVec.and_not_self]
    exact BitVec.and_zero
  refine (PChannel.sound_iff _).2 ⟨hres, ?_⟩
  unfold PChannel.chcrWritten
  split
  · simp
  · exact htag

/-- The channel that a write of S.CHCR leaves (R225). -/
def SChannel.chcrWritten (x : SChannel) (v : Word) : SChannel :=
  { (if !sStr x.chcr && sStr v then
      { x with
        hasTag := false
        chainEnded := false
        active := false
        remaining := 0
        tagWords := false
        tagBuf := 0
        tagIrq := false }
    else x) with chcr := v }

theorem SChannel.chcrWritten_sound {x : SChannel} (hx : x.sound = true) (v : Word) :
    (x.chcrWritten v).sound = true := by
  unfold SChannel.chcrWritten
  split
  · rfl
  · exact hx

/-- The engine that a write of P.D_STAT leaves, before the re-evaluation (R209). -/
def EngineP.dStatWritten (e : EngineP) (v : Word) : EngineP :=
  { e with
    cis := e.cis &&& ~~~(dStatClear v)
    cim := e.cim ^^^ dStatToggle v }

/-- The engine that a write of S.DICR leaves, before the re-evaluation (R233). -/
def EngineS.dicrWritten (e : EngineS) (v : Word) : EngineS :=
  { e with
    be := v.getLsbD 15
    im1 := v.extractLsb' 16 7
    mie := v.getLsbD 23
    ip1 := e.ip1 &&& ~~~(v.extractLsb' 24 7) }

/-- The engine that a write of S.DICR2 leaves, before the re-evaluation (R235). -/
def EngineS.dicr2Written (e : EngineS) (v : Word) : EngineS :=
  { e with
    tip := e.tip &&& ~~~(v.extractLsb' 0 13)
    im2 := v.extractLsb' 16 6
    ip2 := e.ip2 &&& ~~~(v.extractLsb' 24 6) }

theorem Conduct.tagP {i : Instr} {fam : TagFamily} {c : PChan} {g : Quad} {res : State → Option TagResult}
    (he : instrEngine i = some .P) (hrun : ∀ s, exec i s = .next (runTagP fam c g (res s) s))
    (hres : ∀ s e m p, res (s.withS e m p) = res s) : Conduct i .P fun s => runTagP fam c g (res s) s where
  engine := he
  run := hrun
  isolated s e m p := by dsimp only; rw [hres, runTagP_withS]
  keepsInv s hs := hs.runTagP fam c g _
  held _ s h := by unfold runTagP; rw [if_pos h]; exact .respond _ _ _

theorem Conduct.tagS (c : SChan) (g : STag) : Conduct (.sTag c g) .S (runTagS c g) where
  engine := rfl
  run _ := rfl
  isolated s e m spr p := runTagS_withP c s e m spr p g
  keepsInv s hs := hs.runTagS c g
  held _ s h := by unfold runTagS; rw [if_pos h]; exact .respond _ _ _

theorem Conduct.serviceP : Conduct .serviceP .P runServiceP where
  engine := rfl
  run _ := rfl
  isolated := runServiceP_withS
  keepsInv _ hs := hs.runServiceP
  held _ s h := by unfold runServiceP; rw [if_pos h]; exact .respond _ _ _

theorem Conduct.serviceS : Conduct .serviceS .S runServiceS where
  engine := rfl
  run _ := rfl
  isolated := runServiceS_withP
  keepsInv _ hs := hs.runServiceS
  held _ s h := by unfold runServiceS; rw [if_pos h]; exact .respond _ _ _

theorem Held.setPch_drq (s : State) (c : PChan) (b : Bool) : Held .P s (s.setPch c { s.pch c with drq := b }) := by
  refine ⟨rfl, fun d => ?_⟩
  rw [State.pch_setPch]
  split
  · next hd => rw [hd]
  · rfl

theorem Held.setSch_drq (s : State) (c : SChan) (b : Bool) : Held .S s (s.setSch c { s.sch c with drq := b }) := by
  refine ⟨rfl, fun d => ?_⟩
  rw [State.sch_setSch]
  split
  · next hd => rw [hd]
  · rfl

theorem Conduct.setRequestP (c : PChan) (b : Bool) :
    Conduct (.setRequestP c b) .P fun s => (s.setPch c { s.pch c with drq := b }).respond .done where
  engine := rfl
  run _ := rfl
  isolated _ _ _ _ := rfl
  keepsInv s hs := ((Stores.pch c (fun x => { x with drq := b }) fun _ => id).keepsInv s hs).respond _
  held _ s _ := Held.setPch_drq s c b

theorem Conduct.setRequestS (c : SChan) (b : Bool) :
    Conduct (.setRequestS c b) .S fun s => (s.setSch c { s.sch c with drq := b }).respond .done where
  engine := rfl
  run _ := rfl
  isolated _ _ _ _ _ := rfl
  keepsInv s hs := ((Stores.sch c (fun x => { x with drq := b }) fun _ => id).keepsInv s hs).respond _
  held _ s _ := Held.setSch_drq s c b

theorem Conduct.resetP : Conduct .resetP .P resetEngineP where
  engine := rfl
  run _ := rfl
  isolated _ _ _ _ := rfl
  keepsInv s hs := (hs.setEngP (EngineP.reset_inv s.cfg)).respond _
  held h := absurd rfl h

theorem Conduct.resetS : Conduct .resetS .S resetEngineS where
  engine := rfl
  run _ := rfl
  isolated _ _ _ _ _ := rfl
  keepsInv s hs := (hs.setEngS (EngineS.reset_inv s.cfg)).respond _
  held h := absurd rfl h

theorem Conduct.cpcond : Conduct .cpcond .P fun s => s.respond (.cpcond (cpcondOf s.engP)) where
  engine := rfl
  run _ := rfl
  isolated _ _ _ _ := rfl
  keepsInv _ hs := hs.respond _
  held _ s _ := .respond _ s _

/-- What every instruction does, by its family. -/
theorem conduct (i : Instr) : ∃ e f, Conduct i e f := by
  cases instrView i
  case rdPChcr c => exact ⟨_, _, .readP (eng_rd (encode_rdPChcr c)) (exec_rdPChcr c) fun _ _ _ _ => rfl⟩
  case rdPMadr c => exact ⟨_, _, .readP (eng_rd (encode_rdPMadr c)) (exec_rdPMadr c) fun _ _ _ _ => rfl⟩
  case rdPQwc c => exact ⟨_, _, .readP (eng_rd (encode_rdPQwc c)) (exec_rdPQwc c) fun _ _ _ _ => rfl⟩
  case rdPTadr c => exact ⟨_, _, .readP (eng_rd (encode_rdPTadr c)) (exec_rdPTadr c) fun _ _ _ _ => rfl⟩
  case rdPAsr0 c => exact ⟨_, _, .readP (eng_rd (encode_rdPAsr0 c)) (exec_rdPAsr0 c) fun _ _ _ _ => rfl⟩
  case rdPAsr1 c => exact ⟨_, _, .readP (eng_rd (encode_rdPAsr1 c)) (exec_rdPAsr1 c) fun _ _ _ _ => rfl⟩
  case rdPSadr c => exact ⟨_, _, .readP (eng_rd (encode_rdPSadr c)) (exec_rdPSadr c) fun _ _ _ _ => rfl⟩
  case rdPDCtrl => exact ⟨_, _, .readP (eng_rd encode_rdPDCtrl) (fun _ => rfl) fun _ _ _ _ => rfl⟩
  case rdPDStat => exact ⟨_, _, .readP (eng_rd encode_rdPDStat) (fun _ => rfl) fun _ _ _ _ => rfl⟩
  case rdPDPcr => exact ⟨_, _, .readP (eng_rd encode_rdPDPcr) (fun _ => rfl) fun _ _ _ _ => rfl⟩
  case rdSMadr c => exact ⟨_, _, .readS (eng_rd (encode_rdSMadr c)) (exec_rdSMadr c) fun _ _ _ _ _ => rfl⟩
  case rdSChcr c => exact ⟨_, _, .readS (eng_rd (encode_rdSChcr c)) (exec_rdSChcr c) fun _ _ _ _ _ => rfl⟩
  case rdSTadr c => exact ⟨_, _, .readS (eng_rd (encode_rdSTadr c)) (exec_rdSTadr c) fun _ _ _ _ _ => rfl⟩
  case rdSBcrAt0 c w => exact ⟨_, _, .readS (eng_rd (encode_rdSBcrAt0 c w)) (exec_rdSBcrAt0 c w) fun _ _ _ _ _ => rfl⟩
  case rdSBcrAt1 c => exact ⟨_, _, .readS ((eng_of_op (encode_rdSBcrAt1 c)).trans (win1 _))
    (exec_rdSBcrAt1 c) fun _ _ _ _ _ => rfl⟩
  case rdSBcrAt2 c w => exact ⟨_, _, .readS ((eng_of_op (encode_rdSBcrAt2 c w)).trans (win2 _))
    (exec_rdSBcrAt2 c w) fun _ _ _ _ _ => rfl⟩
  case rdSBcrAt3 c => exact ⟨_, _, .readS ((eng_of_op (encode_rdSBcrAt3 c)).trans (win3 _))
    (exec_rdSBcrAt3 c) fun _ _ _ _ _ => rfl⟩
  case rdSDpcr => exact ⟨_, _, .readS (eng_rd encode_rdSDpcr) (fun _ => rfl) fun _ _ _ _ _ => rfl⟩
  case rdSDpcr2 => exact ⟨_, _, .readS (eng_rd encode_rdSDpcr2) (fun _ => rfl) fun _ _ _ _ _ => rfl⟩
  case rdSDicr => exact ⟨_, _, .readS (eng_rd encode_rdSDicr) (fun _ => rfl) fun _ _ _ _ _ => rfl⟩
  case rdSDicr2 => exact ⟨_, _, .readS (eng_rd encode_rdSDicr2) (fun _ => rfl) fun _ _ _ _ _ => rfl⟩
  case rdSDmacen => exact ⟨_, _, .readS (eng_rd encode_rdSDmacen) (fun _ => rfl) fun _ _ _ _ _ => rfl⟩
  case rdSDmacinten => exact ⟨_, _, .readS (eng_rd encode_rdSDmacinten) (fun _ => rfl) fun _ _ _ _ _ => rfl⟩
  case wrPChcr c v => exact ⟨_, _, .writeP (eng_wr (encode_wrPChcr c v))
    (exec_wrPChcr c v) (.pch c (·.chcrWritten v) fun _ h => PChannel.chcrWritten_sound h v)⟩
  case wrPMadr c v => exact ⟨_, _, .writeP (eng_wr (encode_wrPMadr c v)) (exec_wrPMadr c v)
    (.pch c (fun x => { x with madr := v }) fun _ => id)⟩
  case wrPQwc c v => exact ⟨_, _, .writeP (eng_wr (encode_wrPQwc c v)) (exec_wrPQwc c v)
    (.pch c (fun x => { x with qwc := v.extractLsb' 0 16 }) fun _ => id)⟩
  case wrPTadr c v => exact ⟨_, _, .writeP (eng_wr (encode_wrPTadr c v)) (exec_wrPTadr c v)
    (.pch c (fun x => { x with tadr := v }) fun _ => id)⟩
  case wrPAsr0 c v => exact ⟨_, _, .writeP (eng_wr (encode_wrPAsr0 c v)) (exec_wrPAsr0 c v)
    (.pch c (fun x => { x with asr0 := v }) fun _ => id)⟩
  case wrPAsr1 c v => exact ⟨_, _, .writeP (eng_wr (encode_wrPAsr1 c v)) (exec_wrPAsr1 c v)
    (.pch c (fun x => { x with asr1 := v }) fun _ => id)⟩
  case wrPSadr c v => exact ⟨_, _, .writeP (eng_wr (encode_wrPSadr c v)) (exec_wrPSadr c v)
    (.pch c (fun x => { x with sadr := v.extractLsb' 0 14 }) fun _ => id)⟩
  case wrPDCtrl v => exact ⟨_, _, .writeP (eng_wr (encode_wrPDCtrl v)) (fun _ => rfl)
    (.engP (fun e => { e with dCtrl := v }) fun _ h => ⟨h.sound, h.master, h.fault⟩)⟩
  case wrPDPcr v => exact ⟨_, _, .writeP (eng_wr (encode_wrPDPcr v)) (fun _ => rfl)
    (.engP (fun e => { e with dPcr := v }) fun _ h => ⟨h.sound, h.master, h.fault⟩)⟩
  case wrPDStat v => exact ⟨_, _, .writeP (eng_wr (encode_wrPDStat v)) (fun _ => rfl)
    (.reevalP (·.dStatWritten v) (fun _ => rfl) fun _ => rfl)⟩
  case wrSMadr c v => exact ⟨_, _, .writeS (eng_wr (encode_wrSMadr c v)) (exec_wrSMadr c v)
    (.sch c (fun x => { x with madr := v.extractLsb' 0 24 }) fun _ => id)⟩
  case wrSTadr c v => exact ⟨_, _, .writeS (eng_wr (encode_wrSTadr c v)) (exec_wrSTadr c v)
    (.sch c (fun x => { x with tadr := v.extractLsb' 0 24 }) fun _ => id)⟩
  case wrSChcr c v => exact ⟨_, _, .writeS (eng_wr (encode_wrSChcr c v))
    (exec_wrSChcr c v) (.sch c (·.chcrWritten v) fun _ h => SChannel.chcrWritten_sound h v)⟩
  case wrSBcrAt0 c w v => exact ⟨_, _, .writeS (eng_wr (encode_wrSBcrAt0 c w v))
    (exec_wrSBcrAt0 c w v) (.bcr c 0 w v)⟩
  case wrSBcrAt1 c v => exact ⟨_, _, .writeS ((eng_of_op (encode_wrSBcrAt1 c v)).trans (win1 _))
    (exec_wrSBcrAt1 c v) (.bcr c 1 _ _)⟩
  case wrSBcrAt2 c w v => exact ⟨_, _, .writeS ((eng_of_op (encode_wrSBcrAt2 c w v)).trans (win2 _))
    (exec_wrSBcrAt2 c w v) (.bcr c 2 _ _)⟩
  case wrSBcrAt3 c v => exact ⟨_, _, .writeS ((eng_of_op (encode_wrSBcrAt3 c v)).trans (win3 _))
    (exec_wrSBcrAt3 c v) (.bcr c 3 _ _)⟩
  case wrSDpcr v => exact ⟨_, _, .writeS (eng_wr (encode_wrSDpcr v)) (fun _ => rfl)
    (.engS (fun e => { e with dpcr := v }) fun _ h => ⟨h.sound, h.mif, h.fault⟩)⟩
  case wrSDpcr2 v => exact ⟨_, _, .writeS (eng_wr (encode_wrSDpcr2 v)) (fun _ => rfl)
    (.engS (fun e => { e with dpcr2 := v }) fun _ h => ⟨h.sound, h.mif, h.fault⟩)⟩
  case wrSDmacen v => exact ⟨_, _, .writeS (eng_wr (encode_wrSDmacen v)) (fun _ => rfl)
    (.engS (fun e => { e with dmacen := v }) fun _ h => ⟨h.sound, h.mif, h.fault⟩)⟩
  case wrSDmacinten v => exact ⟨_, _, .writeS (eng_wr (encode_wrSDmacinten v)) (fun _ => rfl)
    (.engS (fun e => { e with dmacinten := v }) fun _ h => ⟨h.sound, h.mif, h.fault⟩)⟩
  case wrSDicr v => exact ⟨_, _, .writeS (eng_wr (encode_wrSDicr v)) (fun _ => rfl)
    (.reevalS (·.dicrWritten v) (fun _ => rfl) fun _ => rfl)⟩
  case wrSDicr2 v => exact ⟨_, _, .writeS (eng_wr (encode_wrSDicr2 v)) (fun _ => rfl)
    (.reevalS (·.dicr2Written v) (fun _ => rfl) fun _ => rfl)⟩
  case sTag c g => exact ⟨_, _, .tagS c g⟩
  case serviceP => exact ⟨_, _, .serviceP⟩
  case serviceS => exact ⟨_, _, .serviceS⟩
  case setRequestP c b => exact ⟨_, _, .setRequestP c b⟩
  case setRequestS c b => exact ⟨_, _, .setRequestS c b⟩
  case resetP => exact ⟨_, _, .resetP⟩
  case resetS => exact ⟨_, _, .resetS⟩
  case cpcond => exact ⟨_, _, .cpcond⟩
  all_goals exact ⟨_, _, .tagP rfl (fun _ => rfl) fun _ _ _ _ => rfl⟩

end Sys2Proof.Machine
end

section
/-! PROOFS. Steps (10_state.md R31, R47, R58, R62): what a step keeps, from what its instruction does. -/

namespace Sys2Proof

theorem readRow_of_decode {a : Word} {w : AccessWidth} {i : Instr} (h : decode (.read a w) = .ok i) :
    ∃ r k, readRow r k w = some i := by
  simp only [decode] at h
  split at h
  · cases h
  · next r k _ =>
    split at h
    · next hrow => exact ⟨r, k, by rw [hrow, Except.ok.inj h]⟩
    · cases h

theorem writeRow_of_decode {a : Word} {w : AccessWidth} {v : Word} {i : Instr} (h : decode (.write a w v) = .ok i) :
    ∃ r k, writeRow r k w v = some i := by
  simp only [decode] at h
  split at h
  · cases h
  · next r k _ =>
    split at h
    · next hrow => exact ⟨r, k, by rw [hrow, Except.ok.inj h]⟩
    · cases h

namespace Machine

/-- The operation RESET of an engine (R180, R460). -/
def resetOp : Engine → Operation
  | .P => .resetP
  | .S => .resetS

theorem encode_resetInstr (e : Engine) : encode (resetInstr e) = .op (resetOp e) := by cases e <;> rfl

/-- Only the operation RESET of an engine decodes to its RESET. -/
theorem eq_resetOp_of_decode {o : Operation} {e : Engine} (h : decode o = .ok (resetInstr e)) : o = resetOp e := by
  have henc := encode_resetInstr e
  cases o with
  | read a w =>
    obtain ⟨r, k, hrow⟩ := readRow_of_decode h
    rw [encode_readRow hrow] at henc
    cases e <;> cases henc
  | write a w v =>
    obtain ⟨r, k, hrow⟩ := writeRow_of_decode h
    obtain ⟨a', v', he⟩ := encode_writeRow hrow
    rw [he] at henc
    cases e <;> cases henc
  | _ => exact Encoding.op.inj ((congrArg encode (Except.ok.inj h)).trans henc)

variable {s t : State}

/-! ### Rejected accesses -/

/-- A rejected access that reaches the core leaves a next state: no step of a halted engine, or a fatal error of an
engine that was not halted, with its own record (R109, R111, R403). -/
theorem rejectAccess_cases {err : DecodeError} (h : rejectAccess err s = .next t) :
    t = s.respond .noStep ∨
      ∃ e r, halted e s = false ∧ r.engine = e ∧ r.code ≠ .invariant ∧ t = takeFatal e s s r := by
  cases err with
  | outsideWindows a => cases h
  | unmodelledRegister e a w k =>
    simp only [rejectAccess] at h
    split at h <;> cases h
    · exact .inl rfl
    · next hh => exact .inr ⟨e, _, by simpa using hh, rfl, by simp [fatalRecord], rfl⟩
  | unsupportedWidth r a w k =>
    simp only [rejectAccess] at h
    split at h <;> cases h
    · exact .inl rfl
    · next hh => exact .inr ⟨r.engine, _, by simpa using hh, rfl, by simp [fatalRecord], rfl⟩

/-- A fatal error of one engine holds the other. -/
theorem Held.takeFatal_other {e e' : Engine} (hne : e' ≠ e) (s : State) (r : FaultRecord) :
    Held e s (takeFatal e' s s r) := by
  cases e <;> cases e'
  case P.P => exact absurd rfl hne
  case P.S => exact .of_engP rfl
  case S.P => exact .of_engS rfl
  case S.S => exact absurd rfl hne

theorem rejectAccess_held {err : DecodeError} {e : Engine} (h : rejectAccess err s = .next t)
    (hh : halted e s = true) : Held e s t := by
  rcases rejectAccess_cases h with rfl | ⟨e', r, hn, -, -, rfl⟩
  · exact .respond _ _ _
  · exact .takeFatal_other (fun he => by rw [he, hh] at hn; cases hn) s r

theorem State.Inv.rejectAccess {err : DecodeError} (hs : s.Inv) (h : rejectAccess err s = .next t) : t.Inv := by
  rcases rejectAccess_cases h with rfl | ⟨e, r, -, he, hc, rfl⟩
  · exact hs.respond _
  · exact hs.takeFatal he hc

/-! ### Operations and steps -/

/-- An operation but RESET(e) leaves a halted engine e as it is, its request flags apart: an instruction of e makes no
step, and one of the other engine does not reach it (R31, R403). -/
theorem runOperation_held {o : Operation} {e : Engine} (h : runOperation o s = .next t) (hh : halted e s = true)
    (ho : o ≠ resetOp e) : Held e s t := by
  cases hd : decode o with
  | error err => exact rejectAccess_held (runOperation_error hd s ▸ h) hh
  | ok i =>
    obtain ⟨e', f, hc⟩ := conduct i
    have hexec : exec i s = .next t := runOperation_ok hd s ▸ h
    obtain rfl : f s = t := Host.Outcome.next.inj ((hc.run s).symm.trans hexec)
    by_cases he : e' = e
    · subst he
      exact hc.held (fun hi => ho (eq_resetOp_of_decode (hi ▸ hd))) s hh
    · exact hc.isolated.held_other he s

theorem step_held (e : Engine) (h : step s = .next t) (hh : halted e s = true)
    (hp : s.pending.head? ≠ some (.op (resetOp e))) : Held e s t := by
  cases hl : s.pending with
  | nil =>
    rw [step_nil hl] at h
    cases h
    exact .of_eq e rfl rfl
  | cons p rest =>
    have hs : Held e s = Held e { s with pending := rest } := by cases e <;> rfl
    have hh' : halted e { s with pending := rest } = true := by cases e <;> exact hh
    rw [step_cons hl] at h
    rw [hs]
    cases p with
    | op o => exact runOperation_held h hh' fun ho => hp (by rw [hl, ho]; rfl)
    | memP a v => cases h; exact .of_eq e rfl rfl
    | memS a v => cases h; exact .of_eq e rfl rfl
    | spr a v => cases h; exact .of_eq e rfl rfl

theorem State.Inv.runOperation {o : Operation} (hs : s.Inv) (h : runOperation o s = .next t) : t.Inv := by
  cases hd : decode o with
  | error err => exact hs.rejectAccess (runOperation_error hd s ▸ h)
  | ok i =>
    obtain ⟨e, f, hc⟩ := conduct i
    have hexec : exec i s = .next t := runOperation_ok hd s ▸ h
    obtain rfl : f s = t := Host.Outcome.next.inj ((hc.run s).symm.trans hexec)
    exact hc.keepsInv s hs

/-- An entry of the host's order keeps the invariant: an operation, or an aligned unit written by another agent, which
lies in its address space (R104). -/
theorem State.Inv.runPending {p : Pending} (hs : s.Inv) (h : runPending p s = .next t) : t.Inv := by
  cases p with
  | op o => exact hs.runOperation h
  | memP a v => cases h; exact hs.setMemP (writeQuad_kept hs.memP (busAddrP_bound a).2 v)
  | memS a v => cases h; exact hs.setMemS (writeWord_kept hs.memS (busAddrS_bound a).2 v)
  | spr a v => cases h; exact hs.setSpr (writeQuad_kept hs.spr (sprOffset_bound a).2 v)

theorem State.Inv.step (hs : s.Inv) (h : step s = .next t) : t.Inv := by
  cases hl : s.pending with
  | nil =>
    rw [step_nil hl] at h
    cases h
    exact hs
  | cons p rest => exact (hs.setPending rest).runPending (step_cons hl ▸ h)

/-! ### What a service touches -/

/-- The calls of a sub-step of channel c, and a raise after them, are no calls of another channel's peer. -/
theorem eventPeerP_of_calls {c : PChan} {calls raise : List Event} (hc : ∀ e ∈ calls, CallOfP c e)
    (hr : ∀ e ∈ raise, e = .intcRaise .P) :
    ∀ e ∈ calls ++ raise, eventPeerP e = none ∨ eventPeerP e = some c := by
  intro e he
  rcases List.mem_append.1 he with he | he
  · exact (hc e he).1
  · exact .inl (by rw [hr e he]; rfl)

theorem eventPeerS_of_calls {c : SChan} {calls raise : List Event} (hc : ∀ e ∈ calls, CallOfS c e)
    (hr : ∀ e ∈ raise, e = .intcRaise .S) :
    ∀ e ∈ calls ++ raise, eventPeerS e = none ∨ eventPeerS e = some c := by
  intro e he
  rcases List.mem_append.1 he with he | he
  · exact (hc e he).1
  · exact .inl (by rw [hr e he]; rfl)

theorem eq_of_mem_ite_singleton {α : Type} {b : Bool} {x y : α} (h : y ∈ if b then [x] else []) : y = x := by
  cases b
  · cases h
  · exact List.mem_singleton.1 h

end Machine

end Sys2Proof

open Sys2Proof Sys2Proof.Machine

/-- Settles O29: RESET is the only operation of an engine with a step while it is halted that writes more than a request
flag, and the operations of the other engine do not reach it. -/
theorem faultsAreSticky : Obligations.FaultsAreSticky := by
  intro s t h
  exact ⟨fun hf hp => step_held .P h (Option.isSome_iff_ne_none.2 hf) hp,
    fun hf hp => step_held .S h (Option.isSome_iff_ne_none.2 hf) hp⟩

/-- Settles O31: the state function of an engine P instruction commutes with the replacement of engine S's part, and the
replacement of that part by itself gives the frame. -/
theorem enginePIgnoresEngineS : Obligations.EnginePIgnoresEngineS := by
  intro i s t e m p hi hexec
  obtain ⟨e', f, hc⟩ := conduct i
  obtain rfl : e' = .P := Option.some.inj (hc.engine.symm.trans hi)
  obtain rfl : f s = t := Host.Outcome.next.inj ((hc.run s).symm.trans hexec)
  exact ⟨by rw [hc.run, hc.isolated s e m p], hc.isolated.frame_P s⟩

/-- Settles O32, as O31 with the engines exchanged. -/
theorem engineSIgnoresEngineP : Obligations.EngineSIgnoresEngineP := by
  intro i s t e m spr p hi hexec
  obtain ⟨e', f, hc⟩ := conduct i
  obtain rfl : e' = .S := Option.some.inj (hc.engine.symm.trans hi)
  obtain rfl : f s = t := Host.Outcome.next.inj ((hc.run s).symm.trans hexec)
  exact ⟨by rw [hc.run, hc.isolated s e m spr p], hc.isolated.frame_S s⟩

/-- Settles O59: every instruction, every rejected access and every outside write keeps the invariant. -/
theorem invKeptByEveryStep : Obligations.InvKeptByEveryStep := fun _ _ hs h => hs.step h

/-- Settles O21, by whether the write starts the channel. -/
theorem writesOfSChcr : Obligations.WritesOfSChcr := by
  intro s c v hf
  have hrun : exec (.wrSChcr c v) s = .next ((s.setSch c ((s.sch c).chcrWritten v)).respond .done) := by
    rw [exec_wrSChcr]
    exact congrArg _ (writeReg_next _ (by rw [halted_S, hf]; rfl))
  rw [hrun]
  unfold SChannel.chcrWritten sStr
  refine ⟨fun h0 h1 => ?_, fun h => ?_⟩
  · rw [h0, h1]
    rfl
  · have hno : (!(s.sch c).chcr.getLsbD 24 && v.getLsbD 24) = false := by
      rcases h with h | h
      · rw [h]; rfl
      · rw [h, Bool.and_false]
    rw [hno]
    rfl

/-- Settles O34: the service is the sub-step of channel c, which ends as `EndsP` says or takes its fatal error. -/
theorem servicePTouchesOneChannel : Obligations.ServicePTouchesOneChannel := by
  intro s t c hc hexec
  have hok := serviceChannelP_okP c s
  obtain rfl : runServiceP s = t := Host.Outcome.next.inj hexec
  rw [hc.run]
  cases hsub : serviceChannelP c s with
  | done u =>
    rw [hsub] at hok
    obtain ⟨x, fin, calls, h, hcalls, -⟩ := hok
    refine ⟨fun d hd => ⟨h.others d hd, h.peersP d hd⟩, fun i hi => ?_, h.cim, h.dCtrl, h.dPcr,
      ⟨_, h.log.trans (List.append_assoc _ _ _), eventPeerP_of_calls hcalls fun e => eq_of_mem_ite_singleton⟩, .inl rfl⟩
    exact (h.cis i).trans (by simp [hi])
  | fatal r u =>
    rw [hsub] at hok
    obtain ⟨x, calls, h, hcalls, -, -, -, -, hchan⟩ := hok
    exact ⟨fun d hd => ⟨rfl, h.peersP d hd⟩, fun _ _ => rfl, rfl, rfl, rfl, ⟨calls, h.log, fun e he => (hcalls e he).1⟩,
      .inr ⟨r, rfl, hchan⟩⟩

/-- Settles O35, likewise, with `EndsS`. -/
theorem serviceSTouchesOneChannel : Obligations.ServiceSTouchesOneChannel := by
  intro s t c hc hexec
  have hok := serviceChannelS_okS c s
  obtain rfl : runServiceS s = t := Host.Outcome.next.inj hexec
  rw [hc.run]
  cases hsub : serviceChannelS c s with
  | done u =>
    rw [hsub] at hok
    obtain ⟨x, fin, calls, h, hcalls, -⟩ := hok
    obtain ⟨hbe, him1, hmie, him2, hint⟩ := h.masks
    obtain ⟨hdpcr, hdpcr2, hen⟩ := h.enables
    refine ⟨fun d hd => ⟨h.others d hd, h.peersS d hd⟩,
      fun i hi => ⟨(h.tip i).trans (by simp [hi]), (h.ip1 i).trans (by simp [hi])⟩,
      fun i hi => (h.ip2 i).trans (by simp [hi]), him1, him2, hbe, hmie, hdpcr, hdpcr2, hen, hint,
      ⟨_, h.log.trans (List.append_assoc _ _ _), eventPeerS_of_calls hcalls fun e => eq_of_mem_ite_singleton⟩, .inl rfl⟩
  | fatal r u =>
    rw [hsub] at hok
    obtain ⟨x, calls, h, hcalls, -, -, -, hchan⟩ := hok
    exact ⟨fun d hd => ⟨rfl, h.peersS d hd⟩, fun _ _ => ⟨rfl, rfl⟩, fun _ _ => rfl, rfl, rfl, rfl, rfl, rfl, rfl, rfl,
      rfl, ⟨calls, h.log, fun e he => (hcalls e he).1⟩, .inr ⟨r, rfl, hchan⟩⟩

end

section
/-! PROOFS. The register map and the decoder (20_memory.md R107 to R111, 30_encoding.md, R190): an instruction that is the
row of an access is decoded from that access, and an access that has no row is the fatal error of R109 or R111. -/

namespace Sys2Proof

/-! ### Rows and their accesses -/

/-- A read row is decoded from its encoded form (R190). -/
theorem decodeEncoding_readRow {r : RegRef} {k : Nat} {w : AccessWidth} {i : Instr} (hk : k < 4)
    (h : readRow r k w = some i) : decodeEncoding (encode i) = .ok i := by
  rw [encode_readRow h, decodeEncoding, decode_read r k hk w, h]

/-- A write row is decoded from its encoded form, where that is the access it is the row of (R190). -/
theorem decodeEncoding_writeRow {r : RegRef} {k : Nat} {w : AccessWidth} {v : Word} {i : Instr} (hk : k < 4)
    (henc : encode i = .op (.write (BitVec.ofNat 32 (r.address + k)) w v)) (h : writeRow r k w v = some i) :
    decodeEncoding (encode i) = .ok i := by
  rw [henc, decodeEncoding, decode_write r k hk w v, h]

/-- At offset 0, where every register but BCR has its one row. -/
theorem decodeEncoding_readRow0 (r : RegRef) (w : AccessWidth) {i : Instr} (h : readRow r 0 w = some i) :
    decodeEncoding (encode i) = .ok i := decodeEncoding_readRow (by decide) h

theorem decodeEncoding_writeRow0 {r : RegRef} {w : AccessWidth} {v : Word} {i : Instr}
    (henc : encode i = .op (.write (BitVec.ofNat 32 r.address) w v)) (h : writeRow r 0 w v = some i) :
    decodeEncoding (encode i) = .ok i := decodeEncoding_writeRow (k := 0) (by decide) henc h

/-- An 8-bit value of a BCR lane survives its widening. -/
theorem setWidth_8_of_32 (v : Byte) : (v.setWidth 32).setWidth 8 = v := by
  rw [BitVec.setWidth_setWidth_of_le _ (by decide), BitVec.setWidth_eq]

theorem setWidth_16_of_32 (v : BitVec 16) : (v.setWidth 32).setWidth 16 = v := by
  rw [BitVec.setWidth_setWidth_of_le _ (by decide), BitVec.setWidth_eq]

/-- A value that fits its lane survives the cut to the lane (R190). -/
theorem setWidth_lane_of_fits {v : BitVec 16} (h : laneFits .w8 v = true) :
    ((v.setWidth 32).setWidth 8).setWidth 16 = v := by
  have hlt : v.toNat < 2 ^ 8 := by simpa [laneFits] using h
  apply BitVec.eq_of_toNat_eq
  simp only [BitVec.toNat_setWidth]
  omega

/-- The two widths at offset 2 of BCR: the row of the access is the instruction again. -/
theorem writeRow_bcr_at2 (c : SChan) {w : LaneWidth} {v : BitVec 16} (h : laneFits w v = true) :
    writeRow (.sCh c .bcr) 2 w.toAccess (v.setWidth 32) = some (.wrSBcrAt2 c w v) := by
  cases w with
  | w8 => exact congrArg (fun x => some (Instr.wrSBcrAt2 c .w8 x)) (setWidth_lane_of_fits h)
  | w16 => exact congrArg (fun x => some (Instr.wrSBcrAt2 c .w16 x)) (setWidth_16_of_32 v)

/-- A tag row is decoded from its packed tag (R157 to R159). -/
theorem decodeEncoding_pTag (fam : TagFamily) (c : PChan) (id : BitVec 3) (t : PTag) {i : Instr}
    (h : decodePTag fam c (packPTag id t) = i) : decodeEncoding (.pTag fam c (packPTag id t)) = .ok i :=
  congrArg Except.ok h

/-! ### The register map -/

/-- A register is the one of its address: its window gives the engine, the engine's map the register (R107, R108). -/
theorem address_injective {r r' : RegRef} (h : r.address = r'.address) : r = r' := by
  have he : r.engine = r'.engine := Option.some.inj ((win0 r).symm.trans (h ▸ win0 r'))
  have hl := lookup_address r
  rw [h, he, lookup_address r'] at hl
  exact (Option.some.inj hl).symm

/-- A word that is no register's address holds no register (R109). -/
theorem lookupReg_none {e : Engine} {n : Nat} (h : ∀ r : RegRef, r.engine = e → r.address ≠ n) :
    lookupReg e n = none := by
  cases hl : lookupReg e n with
  | none => rfl
  | some r =>
    obtain ⟨he, ha⟩ := lookupReg_some hl
    exact absurd ha (h r he)

theorem decodeAddress_unmapped {a : Word} {e : Engine} (hw : windowOf a = some e)
    (h : ∀ r : RegRef, r.engine = e → r.address ≠ wordAddress a) (w : AccessWidth) (kind : AccessKind) :
    decodeAddress a w kind = .error (.unmodelledRegister e a w kind) := by
  simp only [decodeAddress, hw, lookupReg_none h]

/-- An address is its word's address and its byte offset. -/
theorem eq_ofNat_wordAddress (a : Word) : a = BitVec.ofNat 32 (wordAddress a + a.toNat % 4) := by
  rw [wordAddress, Nat.sub_add_cancel (Nat.mod_le _ _), BitVec.ofNat_toNat, BitVec.setWidth_eq]

/-! ### The widths and offsets a register takes -/

/-- A register takes an access of a width at a byte offset (R111, R190): every register 32 bits at offset 0; BCR also 16
bits at even offsets and 8 bits at every offset. -/
def RegRef.Takes (r : RegRef) (k : Nat) (w : AccessWidth) : Prop :=
  (w = .w32 ∧ k = 0) ∨ ((∃ c, r = .sCh c .bcr) ∧ (w = .w8 ∨ (w = .w16 ∧ k % 2 = 0)))

/-- An access that has a read row is one that the register takes. -/
theorem takes_of_readRow {r : RegRef} {k : Nat} {w : AccessWidth} {i : Instr} (h : readRow r k w = some i) :
    r.Takes k w := by
  unfold readRow at h
  split at h
  case h_1 => cases w <;> simp [RegRef.Takes]
  case h_25 => cases h
  all_goals simp [RegRef.Takes]

/-- An access that has a write row is one that the register takes. -/
theorem takes_of_writeRow {r : RegRef} {k : Nat} {w : AccessWidth} {v : Word} {i : Instr}
    (h : writeRow r k w v = some i) : r.Takes k w := by
  unfold writeRow at h
  split at h
  case h_1 => cases w <;> simp [RegRef.Takes]
  case h_25 => cases h
  all_goals simp [RegRef.Takes]

theorem decode_read_unsupported {r : RegRef} {k : Nat} {w : AccessWidth} (hk : k < 4) (h : ¬r.Takes k w) :
    decode (.read (BitVec.ofNat 32 (r.address + k)) w) =
      .error (.unsupportedWidth r (BitVec.ofNat 32 (r.address + k)) w .read) := by
  have hrow : readRow r k w = none := Option.eq_none_iff_forall_ne_some.2 fun _ hi => h (takes_of_readRow hi)
  rw [decode_read r k hk, hrow]

theorem decode_write_unsupported {r : RegRef} {k : Nat} {w : AccessWidth} (hk : k < 4) (h : ¬r.Takes k w) (v : Word) :
    decode (.write (BitVec.ofNat 32 (r.address + k)) w v) =
      .error (.unsupportedWidth r (BitVec.ofNat 32 (r.address + k)) w .write) := by
  have hrow : writeRow r k w v = none := Option.eq_none_iff_forall_ne_some.2 fun _ hi => h (takes_of_writeRow hi)
  rw [decode_write r k hk, hrow]

namespace Machine

/-! ### Rejected accesses -/

/-- A fatal error in the state that raises it changes the fault record and the answer only (R400, R404). -/
theorem takeFatal_self (e : Engine) (s : State) (r : FaultRecord) : takeFatal e s s r = s.faultedBy e r := by
  cases e <;> rfl

theorem halted_of_faultOf_none {e : Engine} {s : State} (h : faultOf e s = none) : halted e s = false := by
  rw [halted, h, Option.isSome_none]

/-- An access to a word that is no register, of an engine that is not halted (R109). -/
theorem rejectAccess_unmodelled {e : Engine} {s : State} (h : faultOf e s = none) (a : Word) (w : AccessWidth)
    (k : AccessKind) : rejectAccess (.unmodelledRegister e a w k) s =
      .next (s.faultedBy e ⟨e, .unmodelledRegister, none, none, rejectAccess.accessOp k, none, some a, some w⟩) := by
  rw [rejectAccess, halted_of_faultOf_none h, takeFatal_self]
  rfl

/-- An access of a width or offset that the register does not take, of an engine that is not halted (R111). -/
theorem rejectAccess_unsupported {r : RegRef} {s : State} (h : faultOf r.engine s = none) (a : Word) (w : AccessWidth)
    (k : AccessKind) : rejectAccess (.unsupportedWidth r a w k) s =
      .next (s.faultedBy r.engine
        ⟨r.engine, .unsupportedWidth, r.channel, none, rejectAccess.accessOp k, some r, some a, some w⟩) := by
  rw [rejectAccess, halted_of_faultOf_none h, takeFatal_self]
  rfl

end Machine

end Sys2Proof

open Sys2Proof Sys2Proof.Machine

/-- Settles O1, by the families of instructions: a register row is the row of the access it encodes, a tag row unpacks
from the tag it packs. -/
theorem decodeOfEncodeIsIdentity : Obligations.DecodeOfEncodeIsIdentity := by
  intro cfg i hwf
  cases instrView i
  case rdPChcr c => exact decodeEncoding_readRow0 (.pCh c .chcr) .w32 rfl
  case rdPMadr c => exact decodeEncoding_readRow0 (.pCh c .madr) .w32 rfl
  case rdPQwc c => exact decodeEncoding_readRow0 (.pCh c .qwc) .w32 rfl
  case rdPTadr c => exact decodeEncoding_readRow0 (.pCh c .tadr) .w32 rfl
  case rdPAsr0 c => exact decodeEncoding_readRow0 (.pCh c .asr0) .w32 rfl
  case rdPAsr1 c => exact decodeEncoding_readRow0 (.pCh c .asr1) .w32 rfl
  case rdPSadr c => exact decodeEncoding_readRow0 (.pCh c .sadr) .w32 rfl
  case rdPDCtrl => exact decodeEncoding_readRow0 (.pWide .dCtrl) .w32 rfl
  case rdPDStat => exact decodeEncoding_readRow0 (.pWide .dStat) .w32 rfl
  case rdPDPcr => exact decodeEncoding_readRow0 (.pWide .dPcr) .w32 rfl
  case rdSMadr c => exact decodeEncoding_readRow0 (.sCh c .madr) .w32 rfl
  case rdSChcr c => exact decodeEncoding_readRow0 (.sCh c .chcr) .w32 rfl
  case rdSTadr c => exact decodeEncoding_readRow0 (.sCh c .tadr) .w32 rfl
  case rdSBcrAt0 c w => exact decodeEncoding_readRow0 (.sCh c .bcr) w rfl
  case rdSBcrAt1 c => exact decodeEncoding_readRow (r := .sCh c .bcr) (k := 1) (w := .w8) (by decide) rfl
  case rdSBcrAt2 c w =>
    exact decodeEncoding_readRow (r := .sCh c .bcr) (k := 2) (w := w.toAccess) (by decide) (by cases w <;> rfl)
  case rdSBcrAt3 c => exact decodeEncoding_readRow (r := .sCh c .bcr) (k := 3) (w := .w8) (by decide) rfl
  case rdSDpcr => exact decodeEncoding_readRow0 (.sWide .dpcr) .w32 rfl
  case rdSDicr => exact decodeEncoding_readRow0 (.sWide .dicr) .w32 rfl
  case rdSDpcr2 => exact decodeEncoding_readRow0 (.sWide .dpcr2) .w32 rfl
  case rdSDicr2 => exact decodeEncoding_readRow0 (.sWide .dicr2) .w32 rfl
  case rdSDmacen => exact decodeEncoding_readRow0 (.sWide .dmacen) .w32 rfl
  case rdSDmacinten => exact decodeEncoding_readRow0 (.sWide .dmacinten) .w32 rfl
  case wrPChcr c v => exact decodeEncoding_writeRow0 (encode_wrPChcr c v) rfl
  case wrPMadr c v => exact decodeEncoding_writeRow0 (encode_wrPMadr c v) rfl
  case wrPQwc c v => exact decodeEncoding_writeRow0 (encode_wrPQwc c v) rfl
  case wrPTadr c v => exact decodeEncoding_writeRow0 (encode_wrPTadr c v) rfl
  case wrPAsr0 c v => exact decodeEncoding_writeRow0 (encode_wrPAsr0 c v) rfl
  case wrPAsr1 c v => exact decodeEncoding_writeRow0 (encode_wrPAsr1 c v) rfl
  case wrPSadr c v => exact decodeEncoding_writeRow0 (encode_wrPSadr c v) rfl
  case wrPDCtrl v => exact decodeEncoding_writeRow0 (encode_wrPDCtrl v) rfl
  case wrPDStat v => exact decodeEncoding_writeRow0 (encode_wrPDStat v) rfl
  case wrPDPcr v => exact decodeEncoding_writeRow0 (encode_wrPDPcr v) rfl
  case wrSMadr c v => exact decodeEncoding_writeRow0 (encode_wrSMadr c v) rfl
  case wrSChcr c v => exact decodeEncoding_writeRow0 (encode_wrSChcr c v) rfl
  case wrSTadr c v => exact decodeEncoding_writeRow0 (encode_wrSTadr c v) rfl
  case wrSBcrAt0 c w v =>
    rw [wellFormed_wrSBcrAt0] at hwf
    exact decodeEncoding_writeRow0 (encode_wrSBcrAt0 c w v)
      (congrArg (fun x => some (Instr.wrSBcrAt0 c w x)) (accessValue_fits hwf))
  case wrSBcrAt1 c v =>
    exact decodeEncoding_writeRow (by decide) (encode_wrSBcrAt1 c v)
      (congrArg (fun x => some (Instr.wrSBcrAt1 c x)) (setWidth_8_of_32 v))
  case wrSBcrAt2 c w v =>
    rw [wellFormed_wrSBcrAt2] at hwf
    exact decodeEncoding_writeRow (by decide) (encode_wrSBcrAt2 c w v) (writeRow_bcr_at2 c hwf)
  case wrSBcrAt3 c v =>
    exact decodeEncoding_writeRow (by decide) (encode_wrSBcrAt3 c v)
      (congrArg (fun x => some (Instr.wrSBcrAt3 c x)) (setWidth_8_of_32 v))
  case wrSDpcr v => exact decodeEncoding_writeRow0 (encode_wrSDpcr v) rfl
  case wrSDicr v => exact decodeEncoding_writeRow0 (encode_wrSDicr v) rfl
  case wrSDpcr2 v => exact decodeEncoding_writeRow0 (encode_wrSDpcr2 v) rfl
  case wrSDicr2 v => exact decodeEncoding_writeRow0 (encode_wrSDicr2 v) rfl
  case wrSDmacen v => exact decodeEncoding_writeRow0 (encode_wrSDmacen v) rfl
  case wrSDmacinten v => exact decodeEncoding_writeRow0 (encode_wrSDmacinten v) rfl
  case sTag c t => exact congrArg (fun x => Except.ok (Instr.sTag c x)) (unpackS_pack t)
  case serviceP => rfl
  case serviceS => rfl
  case setRequestP => rfl
  case setRequestS => rfl
  case resetP => rfl
  case resetS => rfl
  case cpcond => rfl
  all_goals exact decodeEncoding_pTag _ _ _ _ (decodePTag_pack _ _ _ _)

/-- Settles O6: no register is found at the word, so the decoder refuses the access, and the engine takes the error. -/
theorem unmappedWordsAreFatal : Obligations.UnmappedWordsAreFatal := by
  intro s a w v e hw hf hreg
  have hread : decode (.read a w) = .error (.unmodelledRegister e a w .read) := by
    simp only [decode, decodeAddress_unmapped hw hreg]
  have hwrite : decode (.write a w v) = .error (.unmodelledRegister e a w .write) := by
    simp only [decode, decodeAddress_unmapped hw hreg]
  exact ⟨(runOperation_error hread s).trans (rejectAccess_unmodelled hf a w .read),
    (runOperation_error hwrite s).trans (rejectAccess_unmodelled hf a w .write)⟩

/-- Settles O7: the register is found and has no row for the access (`RegRef.Takes`). -/
theorem unsupportedWidthsAreFatal : Obligations.UnsupportedWidthsAreFatal := by
  intro s r a w v ha hf hword hbcr
  have htakes : ¬r.Takes (a.toNat % 4) w := by
    rw [RegRef.Takes, Nat.mod_mod_of_dvd _ (by decide : 2 ∣ 4)]
    exact not_or.2 ⟨hword, hbcr⟩
  have hk : a.toNat % 4 < 4 := Nat.mod_lt _ (by decide)
  have haddr : a = BitVec.ofNat 32 (r.address + a.toNat % 4) := ha ▸ eq_ofNat_wordAddress a
  have hread : decode (.read a w) = .error (.unsupportedWidth r a w .read) := by
    have h := decode_read_unsupported hk htakes
    rwa [← haddr] at h
  have hwrite : decode (.write a w v) = .error (.unsupportedWidth r a w .write) := by
    have h := decode_write_unsupported hk htakes v
    rwa [← haddr] at h
  exact ⟨(runOperation_error hread s).trans (rejectAccess_unsupported hf a w .read),
    (runOperation_error hwrite s).trans (rejectAccess_unsupported hf a w .write)⟩

/-- Settles O4: each access is one of a register and its row; each tag is unpacked by its ID. -/
theorem sampleWordsDecode : Obligations.SampleWordsDecode :=
  ⟨decode_write0 (.pCh 2 .chcr) .w32 0x00000105, decode_read0 (.pWide .dStat) .w32,
    decode_write (.sCh 2 .bcr) 2 (by decide) .w16 0x0002, decode_read0 (.sWide .dicr2) .w32, rfl, rfl, rfl⟩

/-- Settles O5, by the window and the lookup of each register's address. -/
theorem registerMapIsInjective : Obligations.RegisterMapIsInjective :=
  ⟨fun _ _ => address_injective, fun r => ⟨(address_spec r).1, win0 r, win3 r⟩⟩

end

section
/-! PROOFS. Register accesses of an engine that is not halted (20_memory.md R110, 40_register_file.md): what each read
answers; what a write of a plain-storage register stores (`PChannel.written` and its like), and that no other register
reads otherwise after it. -/

namespace Sys2Proof.Machine

variable {s : State}

/-! ### Reads -/

/-- A read of engine P, not halted, answers its value and changes nothing else. -/
theorem readReg_P_of_fault_none (h : s.engP.fault = none) (v : Word) :
    readReg .P v s = { s with response := .value v } := readReg_next v (by rw [halted_P, h]; rfl)

theorem readReg_S_of_fault_none (h : s.engS.fault = none) (v : Word) :
    readReg .S v s = { s with response := .value v } := readReg_next v (by rw [halted_S, h]; rfl)

/-- An instruction that is a read of engine P, not halted. -/
theorem exec_read_P {i : Instr} {v : Word} (h : s.engP.fault = none) (hi : exec i s = .next (readReg .P v s)) :
    exec i s = .next { s with response := .value v } := by
  rw [hi, readReg_P_of_fault_none h]

theorem exec_read_S {i : Instr} {v : Word} (h : s.engS.fault = none) (hi : exec i s = .next (readReg .S v s)) :
    exec i s = .next { s with response := .value v } := by
  rw [hi, readReg_S_of_fault_none h]

/-- The reserved bits of a sound channel's CHCR are 0 (R145). -/
theorem State.Inv.chcr_reserved (h : s.Inv) (c : PChan) : (s.pch c).chcr &&& ~~~0xFFFF01FD = 0 :=
  ((PChannel.sound_iff _).1 (h.pSound c)).1

/-! ### The fields of the interrupt registers -/

/-- The fields of DICR, each at its place (R152). -/
theorem dicr_fields (e : EngineS) :
    (∀ i, i < 15 → (dicrValue e).getLsbD i = false) ∧ (dicrValue e).getLsbD 15 = e.be ∧
      (∀ i, i < 7 → (dicrValue e).getLsbD (16 + i) = e.im1.getLsbD i) ∧ (dicrValue e).getLsbD 23 = e.mie ∧
      (∀ i, i < 7 → (dicrValue e).getLsbD (24 + i) = e.ip1.getLsbD i) ∧ (dicrValue e).getLsbD 31 = e.mif := by
  refine ⟨fun i hi => ?_, ?_, fun i hi => ?_, ?_, fun i hi => ?_, ?_⟩ <;> rw [dicr_bits]
  · simp; omega
  · simp
  · interval_cases i <;> simp
  · simp
  · interval_cases i <;> simp
  · simp

/-- The fields of DICR2, each at its place (R153). -/
theorem dicr2_fields (e : EngineS) :
    (∀ i, i < 13 → (dicr2Value e).getLsbD i = e.tip.getLsbD i) ∧
      (∀ i, 13 ≤ i → i < 16 → (dicr2Value e).getLsbD i = false) ∧
      (∀ i, i < 6 → (dicr2Value e).getLsbD (16 + i) = e.im2.getLsbD i) ∧ (dicr2Value e).getLsbD 22 = false ∧
      (dicr2Value e).getLsbD 23 = false ∧ (∀ i, i < 6 → (dicr2Value e).getLsbD (24 + i) = e.ip2.getLsbD i) ∧
      (dicr2Value e).getLsbD 30 = false ∧ (dicr2Value e).getLsbD 31 = false := by
  refine ⟨fun i hi => ?_, fun i hi hi' => ?_, fun i hi => ?_, ?_, ?_, fun i hi => ?_, ?_, ?_⟩ <;> rw [dicr2_bits]
  · interval_cases i <;> simp
  · interval_cases i <;> simp
  · interval_cases i <;> simp
  · simp
  · simp
  · interval_cases i <;> simp
  · simp
  · simp

/-! ### The registers of a channel, and what a write stores in them -/

/-- The value that a read of a register of the channel returns. -/
def PChannel.value (x : PChannel) : PReg → Word
  | .chcr => x.chcr
  | .madr => x.madr
  | .qwc => x.qwc.setWidth 32
  | .tadr => x.tadr
  | .asr0 => x.asr0
  | .asr1 => x.asr1
  | .sadr => x.sadr.setWidth 32

def SChannel.value (x : SChannel) : SReg → Word
  | .madr => x.madr.setWidth 32
  | .bcr => x.bcr
  | .chcr => x.chcr
  | .tadr => x.tadr.setWidth 32

theorem regValue_pCh (s : State) (c : PChan) (q : PReg) : regValue s (.pCh c q) = (s.pch c).value q := by
  cases q <;> rfl

theorem regValue_sCh (s : State) (c : SChan) (q : SReg) : regValue s (.sCh c q) = (s.sch c).value q := by
  cases q <;> rfl

/-- The channel after a write of one of its registers (R193 to R205). -/
def PChannel.written (x : PChannel) (v : Word) : PReg → PChannel
  | .chcr => x.chcrWritten v
  | .madr => { x with madr := v }
  | .qwc => { x with qwc := v.extractLsb' 0 16 }
  | .tadr => { x with tadr := v }
  | .asr0 => { x with asr0 := v }
  | .asr1 => { x with asr1 := v }
  | .sadr => { x with sadr := v.extractLsb' 0 14 }

/-- The channel after a 32-bit write of one of its registers (R221 to R227). -/
def SChannel.written (x : SChannel) (v : Word) : SReg → SChannel
  | .madr => { x with madr := v.extractLsb' 0 24 }
  | .bcr => { x with bcr := v }
  | .chcr => x.chcrWritten v
  | .tadr => { x with tadr := v.extractLsb' 0 24 }

/-- The engine after a write of one of its engine-wide registers, before any re-evaluation (R207 to R211). -/
def EngineP.written (e : EngineP) (v : Word) : PWideReg → EngineP
  | .dCtrl => { e with dCtrl := v }
  | .dStat => e.dStatWritten v
  | .dPcr => { e with dPcr := v }

/-- The same for engine S (R229 to R239). -/
def EngineS.written (e : EngineS) (v : Word) : SWideReg → EngineS
  | .dpcr => { e with dpcr := v }
  | .dicr => e.dicrWritten v
  | .dpcr2 => { e with dpcr2 := v }
  | .dicr2 => e.dicr2Written v
  | .dmacen => { e with dmacen := v }
  | .dmacinten => { e with dmacinten := v }

/-- A field of n bits, widened again, is the value under the field's mask. -/
theorem setWidth_extractLsb'_eq_and (v : Word) {n : Nat} {m : Word}
    (hm : ∀ i : Fin 32, m.getLsbD i.val = decide (i.val < n)) : (v.extractLsb' 0 n).setWidth 32 = v &&& m := by
  apply BitVec.eq_of_getLsbD_eq
  intro i hi
  simp only [BitVec.getLsbD_setWidth, BitVec.getLsbD_extractLsb', BitVec.getLsbD_and, hm ⟨i, hi⟩, hi, decide_true,
    Bool.true_and, Nat.zero_add]
  exact Bool.and_comm _ _

theorem and_full_mask (v : Word) : v &&& 0xFFFFFFFF = v := BitVec.and_allOnes

/-- The register written reads as the value under its mask (R142 to R145). -/
theorem PChannel.value_written_self (x : PChannel) (v : Word) (c : PChan) (q : PReg) :
    (x.written v q).value q = v &&& writeMask (.pCh c q) := by
  cases q with
  | chcr => rfl
  | madr => exact (and_full_mask v).symm
  | qwc => exact setWidth_extractLsb'_eq_and v (m := 0x0000FFFF) (by decide)
  | tadr => exact (and_full_mask v).symm
  | asr0 => exact (and_full_mask v).symm
  | asr1 => exact (and_full_mask v).symm
  | sadr => exact setWidth_extractLsb'_eq_and v (m := 0x00003FFF) (by decide)

/-- A write of CHCR stores nothing in the other registers of the channel: what a start clears is hidden (R195). -/
theorem PChannel.value_chcrWritten (x : PChannel) (v : Word) {q : PReg} (h : q ≠ .chcr) :
    (x.chcrWritten v).value q = x.value q := by
  unfold PChannel.chcrWritten
  split <;> cases q <;> first | rfl | exact absurd rfl h

/-- The other registers of the channel read as before. -/
theorem PChannel.value_written_ne (x : PChannel) (v : Word) {q q' : PReg} (h : q' ≠ q) :
    (x.written v q).value q' = x.value q' := by
  by_cases hq : q = .chcr
  · subst hq
    exact x.value_chcrWritten v h
  · cases q <;> cases q' <;> first | rfl | exact absurd rfl h | exact absurd rfl hq

theorem SChannel.value_written_self (x : SChannel) (v : Word) (c : SChan) (q : SReg) :
    (x.written v q).value q = v &&& writeMask (.sCh c q) := by
  cases q with
  | madr => exact setWidth_extractLsb'_eq_and v (m := 0x00FFFFFF) (by decide)
  | bcr => exact (and_full_mask v).symm
  | chcr => exact (and_full_mask v).symm
  | tadr => exact setWidth_extractLsb'_eq_and v (m := 0x00FFFFFF) (by decide)

theorem SChannel.value_chcrWritten (x : SChannel) (v : Word) {q : SReg} (h : q ≠ .chcr) :
    (x.chcrWritten v).value q = x.value q := by
  unfold SChannel.chcrWritten
  split <;> cases q <;> first | rfl | exact absurd rfl h

theorem SChannel.value_written_ne (x : SChannel) (v : Word) {q q' : SReg} (h : q' ≠ q) :
    (x.written v q).value q' = x.value q' := by
  by_cases hq : q = .chcr
  · subst hq
    exact x.value_chcrWritten v h
  · cases q <;> cases q' <;> first | rfl | exact absurd rfl h | exact absurd rfl hq

/-! ### What a write of a plain-storage register leaves -/

/-- t is s with v stored in register r: r reads as v under its mask, every other register as before, and the memories and
the log are those of s (R110, R240). -/
structure Stored (r : RegRef) (v : Word) (s t : State) : Prop where
  self : regValue t r = v &&& writeMask r
  others : ∀ r', r' ≠ r → regValue t r' = regValue s r'
  memP : t.memP = s.memP
  memS : t.memS = s.memS
  spr : t.spr = s.spr
  log : t.log = s.log

/-- A register of engine P's channel c, stored in it. -/
theorem stored_pch (s : State) (c : PChan) (q : PReg) (v : Word) :
    Stored (.pCh c q) v s (s.setPch c ((s.pch c).written v q)) where
  self := by rw [regValue_pCh, State.pch_setPch_self, PChannel.value_written_self _ v c]
  others r' hr := by
    cases r' with
    | pCh d q' =>
      rw [regValue_pCh, regValue_pCh, State.pch_setPch]
      split
      next hd =>
        subst hd
        exact PChannel.value_written_ne _ v fun hq => hr (by rw [hq])
      next => rfl
    | pWide q' => cases q' <;> rfl
    | sCh d q' => cases q' <;> rfl
    | sWide q' => cases q' <;> rfl
  memP := rfl
  memS := rfl
  spr := rfl
  log := rfl

/-- A register of engine S's channel c, stored in it. -/
theorem stored_sch (s : State) (c : SChan) (q : SReg) (v : Word) :
    Stored (.sCh c q) v s (s.setSch c ((s.sch c).written v q)) where
  self := by rw [regValue_sCh, State.sch_setSch_self, SChannel.value_written_self _ v c]
  others r' hr := by
    cases r' with
    | pCh d q' => cases q' <;> rfl
    | pWide q' => cases q' <;> rfl
    | sCh d q' =>
      rw [regValue_sCh, regValue_sCh, State.sch_setSch]
      split
      next hd =>
        subst hd
        exact SChannel.value_written_ne _ v fun hq => hr (by rw [hq])
      next => rfl
    | sWide q' => cases q' <;> rfl
  memP := rfl
  memS := rfl
  spr := rfl
  log := rfl

/-- A plain-storage engine-wide register of engine P, stored in it. -/
theorem stored_engP (s : State) {q : PWideReg} (hq : plainStorage (.pWide q) = true) (v : Word) :
    Stored (.pWide q) v s (s.setEngP (s.engP.written v q)) where
  self := by
    cases q with
    | dStat => cases hq
    | _ => exact (and_full_mask v).symm
  others r' hr := by
    cases r' with
    | pCh d q' => cases q <;> cases q' <;> rfl
    | pWide q' => cases q <;> cases q' <;> first | exact absurd rfl hr | rfl
    | sCh d q' => cases q' <;> rfl
    | sWide q' => cases q' <;> rfl
  memP := rfl
  memS := rfl
  spr := rfl
  log := rfl

/-- A plain-storage engine-wide register of engine S, stored in it. -/
theorem stored_engS (s : State) {q : SWideReg} (hq : plainStorage (.sWide q) = true) (v : Word) :
    Stored (.sWide q) v s (s.setEngS (s.engS.written v q)) where
  self := by
    cases q with
    | dicr => cases hq
    | dicr2 => cases hq
    | _ => exact (and_full_mask v).symm
  others r' hr := by
    cases r' with
    | pCh d q' => cases q' <;> rfl
    | pWide q' => cases q' <;> rfl
    | sCh d q' => cases q <;> cases q' <;> rfl
    | sWide q' => cases q <;> cases q' <;> first | exact absurd rfl hr | rfl
  memP := rfl
  memS := rfl
  spr := rfl
  log := rfl

/-- The write rows of a channel's registers at offset 0 (R193 to R205). -/
theorem writeRow_pCh (c : PChan) (q : PReg) (v : Word) : ∃ i, writeRow (.pCh c q) 0 .w32 v = some i ∧
    ∀ s, exec i s = .next (writeReg .P (s.setPch c ((s.pch c).written v q)) s) := by
  cases q with
  | chcr => exact ⟨_, rfl, exec_wrPChcr c v⟩
  | madr => exact ⟨_, rfl, exec_wrPMadr c v⟩
  | qwc => exact ⟨_, rfl, exec_wrPQwc c v⟩
  | tadr => exact ⟨_, rfl, exec_wrPTadr c v⟩
  | asr0 => exact ⟨_, rfl, exec_wrPAsr0 c v⟩
  | asr1 => exact ⟨_, rfl, exec_wrPAsr1 c v⟩
  | sadr => exact ⟨_, rfl, exec_wrPSadr c v⟩

/-- The same for engine S; of BCR, the row of all 32 bits (R221 to R227). -/
theorem writeRow_sCh (c : SChan) (q : SReg) (v : Word) : ∃ i, writeRow (.sCh c q) 0 .w32 v = some i ∧
    ∀ s, exec i s = .next (writeReg .S (s.setSch c ((s.sch c).written v q)) s) := by
  cases q with
  | madr => exact ⟨_, rfl, exec_wrSMadr c v⟩
  | bcr => exact ⟨_, rfl, exec_wrSBcrAt0 c .w32 v⟩
  | chcr => exact ⟨_, rfl, exec_wrSChcr c v⟩
  | tadr => exact ⟨_, rfl, exec_wrSTadr c v⟩

/-- The write rows of the plain-storage engine-wide registers (R207, R211). -/
theorem writeRow_pWide {q : PWideReg} (hq : plainStorage (.pWide q) = true) (v : Word) :
    ∃ i, writeRow (.pWide q) 0 .w32 v = some i ∧
      ∀ s, exec i s = .next (writeReg .P (s.setEngP (s.engP.written v q)) s) := by
  cases q with
  | dCtrl => exact ⟨_, rfl, exec_wrPDCtrl v⟩
  | dStat => cases hq
  | dPcr => exact ⟨_, rfl, exec_wrPDPcr v⟩

/-- The same for engine S (R229, R231, R237, R239). -/
theorem writeRow_sWide {q : SWideReg} (hq : plainStorage (.sWide q) = true) (v : Word) :
    ∃ i, writeRow (.sWide q) 0 .w32 v = some i ∧
      ∀ s, exec i s = .next (writeReg .S (s.setEngS (s.engS.written v q)) s) := by
  cases q with
  | dpcr => exact ⟨_, rfl, exec_wrSDpcr v⟩
  | dicr => cases hq
  | dpcr2 => exact ⟨_, rfl, exec_wrSDpcr2 v⟩
  | dicr2 => cases hq
  | dmacen => exact ⟨_, rfl, exec_wrSDmacen v⟩
  | dmacinten => exact ⟨_, rfl, exec_wrSDmacinten v⟩

/-- A plain-storage register has a write row, which stores the value in it (R240). -/
theorem writeRow_stored {r : RegRef} (hr : plainStorage r = true) (v : Word) :
    ∃ i, writeRow r 0 .w32 v = some i ∧
      ∀ s, ∃ t, exec i s = .next (writeReg r.engine t s) ∧ Stored r v s t := by
  cases r with
  | pCh c q =>
    obtain ⟨i, hrow, hexec⟩ := writeRow_pCh c q v
    exact ⟨i, hrow, fun s => ⟨_, hexec s, stored_pch s c q v⟩⟩
  | sCh c q =>
    obtain ⟨i, hrow, hexec⟩ := writeRow_sCh c q v
    exact ⟨i, hrow, fun s => ⟨_, hexec s, stored_sch s c q v⟩⟩
  | pWide q =>
    obtain ⟨i, hrow, hexec⟩ := writeRow_pWide hr v
    exact ⟨i, hrow, fun s => ⟨_, hexec s, stored_engP s hr v⟩⟩
  | sWide q =>
    obtain ⟨i, hrow, hexec⟩ := writeRow_sWide hr v
    exact ⟨i, hrow, fun s => ⟨_, hexec s, stored_engS s hr v⟩⟩

end Sys2Proof.Machine

open Sys2Proof Sys2Proof.Machine

/-- Settles O25: the register's row stores the value (`Stored`). -/
theorem writesReadBackMasked : Obligations.WritesReadBackMasked := by
  intro s r v hr hf
  obtain ⟨i, hrow, hstore⟩ := writeRow_stored hr v
  obtain ⟨t, hexec, ht⟩ := hstore s
  have hdec : decode (.write (BitVec.ofNat 32 r.address) .w32 v) = .ok i := by rw [decode_write0, hrow]
  rw [writeReg_next t (halted_of_faultOf_none hf)] at hexec
  exact ⟨t.respond .done, (runOperation_ok hdec s).trans hexec, ht.self, ht.others,
    fun a => congrArg (Memory.readByte · a) ht.memP, fun a => congrArg (Memory.readByte · a) ht.memS,
    fun a => congrArg (Memory.readByte · a) ht.spr, ht.log⟩

/-- Settles O12: each row is a read of engine P; D_STAT's bits are those of its two sets. -/
theorem readsOfEngineP : Obligations.ReadsOfEngineP := by
  intro s hf
  refine ⟨fun c => ⟨exec_read_P hf (exec_rdPChcr c s), exec_read_P hf (exec_rdPMadr c s),
    exec_read_P hf (exec_rdPQwc c s), exec_read_P hf (exec_rdPTadr c s), exec_read_P hf (exec_rdPAsr0 c s),
    exec_read_P hf (exec_rdPAsr1 c s), exec_read_P hf (exec_rdPSadr c s)⟩, State.Inv.chcr_reserved,
    exec_read_P hf (exec_rdPDCtrl s), exec_read_P hf (exec_rdPDPcr s), ?_⟩
  exact ⟨_, exec_read_P hf (exec_rdPDStat s), dStat_bits s.engP.cis s.engP.cim⟩

/-- Settles O13: each row is a read of engine S. -/
theorem readsOfEngineSChannels : Obligations.ReadsOfEngineSChannels := fun s c hf =>
  ⟨exec_read_S hf (exec_rdSMadr c s), exec_read_S hf (exec_rdSChcr c s), exec_read_S hf (exec_rdSTadr c s)⟩

/-- Settles O14: each row is a read of engine S, of the lane of its width and offset. -/
theorem readsOfBcrLanes : Obligations.ReadsOfBcrLanes := fun s c hf =>
  ⟨exec_read_S hf (exec_rdSBcrAt0 c .w32 s), exec_read_S hf (exec_rdSBcrAt0 c .w16 s),
    exec_read_S hf (exec_rdSBcrAt0 c .w8 s), exec_read_S hf (exec_rdSBcrAt1 c s),
    exec_read_S hf (exec_rdSBcrAt2 c .w16 s), exec_read_S hf (exec_rdSBcrAt2 c .w8 s),
    exec_read_S hf (exec_rdSBcrAt3 c s)⟩

/-- Settles O15: each row is a read of engine S; the bits of DICR and DICR2 are those of their fields. -/
theorem readsOfEngineSWide : Obligations.ReadsOfEngineSWide := by
  intro s hf
  exact ⟨exec_read_S hf (exec_rdSDpcr s), exec_read_S hf (exec_rdSDpcr2 s), exec_read_S hf (exec_rdSDmacen s),
    exec_read_S hf (exec_rdSDmacinten s), ⟨_, exec_read_S hf (exec_rdSDicr s), dicr_fields s.engS⟩,
    ⟨_, exec_read_S hf (exec_rdSDicr2 s), dicr2_fields s.engS⟩⟩

end

section
/-! PROOFS. Memory and its ports (20_memory.md R102, R104, R105, R114, R115, R120): writes by other agents; the units that
services move into memory and through the scratchpad; and the peer failures of engine P. -/

namespace Sys2Proof.Machine

/-! ### Units in memory -/

/-- A quadword written: it reads back whole and byte by byte, and every other byte is as before (R105). -/
theorem Memory.writeQuad_stores {m : Memory} (hm : m.wf = true) (a : Nat) (v : Quad) :
    (m.writeQuad a v).readQuad a = v ∧
      (∀ i, i < 16 → (m.writeQuad a v).readByte (a + i) = v.extractLsb' (8 * i) 8) ∧
      ∀ b, b < a ∨ a + 16 ≤ b → (m.writeQuad a v).readByte b = m.readByte b :=
  ⟨readQuad_writeQuad hm a v, fun _ hi => readByte_writeQuad hm a v hi, fun _ hb => readByte_writeQuad_other hm v hb⟩

/-- A word written, likewise. -/
theorem Memory.writeWord_stores {m : Memory} (hm : m.wf = true) (a : Nat) (v : Word) :
    (m.writeWord a v).readWord a = v ∧
      (∀ i, i < 4 → (m.writeWord a v).readByte (a + i) = v.extractLsb' (8 * i) 8) ∧
      ∀ b, b < a ∨ a + 4 ≤ b → (m.writeWord a v).readByte b = m.readByte b :=
  ⟨readWord_writeWord hm a v, fun _ hi => readByte_writeWord hm a v hi, fun _ hb => readByte_writeWord_other hm v hb⟩

/-! ### Services of engine P, by their sub-step -/

section EngineP

variable {c : PChan} {s u : State}

/-- A service whose sub-step is done (R290). -/
theorem ServesP.done (h : ServesP s c) (hsub : serviceChannelP c s = .done u) :
    exec .serviceP s = .next (u.respond (.progress c.val)) := by
  rw [exec_serviceP, execServiceP, h.run, hsub, settle]

/-- A service whose sub-step is fatal: the engine as it was, plus the record (R400, R404). -/
theorem ServesP.fatal {r : FaultRecord} {calls : List Event} (h : ServesP s c)
    (hsub : serviceChannelP c s = .fatal r u) (hlog : u.log = s.log ++ calls) :
    ∃ t r', exec .serviceP s = .next t ∧ r' = r ∧ t.engP = { s.engP with fault := some r' } ∧
      t.response = .fault r' ∧ t.log = s.log ++ calls := by
  refine ⟨takeFatal .P s u r, r, ?_, rfl, rfl, rfl, hlog⟩
  rw [exec_serviceP, execServiceP, h.run, hsub, settle]

/-- A service of a channel with quadwords left, in Normal or Chain mode, moves a unit (R292 to R294). -/
theorem serviceChannelP_transfer
    (hm : (s.pch c).chcr.extractLsb' 2 2 = 0 ∨ (s.pch c).chcr.extractLsb' 2 2 = 1) (hq : (s.pch c).qwc ≠ 0) :
    serviceChannelP c s = transferUnitP c s := by
  unfold serviceChannelP
  rcases hm with h | h
  · rw [(pMode_normal _).2 h]
    exact if_neg hq
  · rw [(pMode_chain _).2 h]
    exact if_pos hq

theorem serviceChannelP_toPeer
    (hm : (s.pch c).chcr.extractLsb' 2 2 = 0 ∨ (s.pch c).chcr.extractLsb' 2 2 = 1) (hq : (s.pch c).qwc ≠ 0)
    (hd : (s.pch c).chcr.getLsbD 0 = true) : serviceChannelP c s = transferToPeerP c s :=
  (serviceChannelP_transfer hm hq).trans (if_pos hd)

theorem serviceChannelP_toMemory
    (hm : (s.pch c).chcr.extractLsb' 2 2 = 0 ∨ (s.pch c).chcr.extractLsb' 2 2 = 1) (hq : (s.pch c).qwc ≠ 0)
    (hd : (s.pch c).chcr.getLsbD 0 = false) : serviceChannelP c s = transferToMemoryP c s :=
  (serviceChannelP_transfer hm hq).trans (if_neg (by rw [pDir, hd]; decide))

/-- A service in Chain mode with nothing left to move, of a chain that goes on, decodes a tag (R294). -/
theorem serviceChannelP_decode (hm : (s.pch c).chcr.extractLsb' 2 2 = 1) (hq : (s.pch c).qwc = 0)
    (hn : ¬((s.pch c).hasTag = true ∧ (s.pch c).chainEnded = true)) : serviceChannelP c s = decodeStepP c s := by
  unfold serviceChannelP
  rw [(pMode_chain _).2 hm]
  show chainStepP c s = _
  unfold chainStepP
  rw [if_neg (not_not.2 hq), if_neg (by rwa [Bool.and_eq_true])]

theorem isSprChan_of_ne (h8 : c ≠ 8) (h9 : c ≠ 9) : isSprChan c = false := by
  rw [Bool.eq_false_iff, ne_eq, isSprChan_iff]
  exact not_or.2 ⟨h8, h9⟩

/-- A decode whose tag the peer does not give (R296, R301). -/
theorem decodeStepP_underflow (hp : s.cfg.tagFromPeerP[c] = true) (hc : isSprChan c = false)
    (ha : (answerP s c).unit = none) :
    decodeStepP c s = .fatal (underflowP c .tagRead) (afterCallP c (.popP c none) s) := by
  have hfetch : fetchTagP s c = none := by rw [fetchTagP, if_pos hp, unitFromPeerP, hc]; exact ha
  have hafter : afterFetchTagP c s = afterCallP c (.popP c none) s := by
    rw [afterFetchTagP, if_pos hp, afterUnitFromPeerP, hc]
    show afterPopP c s = _
    rw [afterPopP, ha]
  simp only [decodeStepP, hfetch, hafter]

/-! ### Channels 8 and 9 raise no peer fault (R114, R302) -/

/-- A sub-step that raises neither peer fault. -/
def SubStep.NoPeerFault : SubStep → Prop
  | .done _ => True
  | .fatal r _ => r.code ≠ .peerOverflow ∧ r.code ≠ .peerUnderflow

theorem transferUnitP_noPeerFault (hc : isSprChan c = true) (s : State) : (transferUnitP c s).NoPeerFault := by
  unfold transferUnitP
  split
  · rw [transferToPeerP_spr hc]; trivial
  · rw [transferToMemoryP_spr hc]; trivial

/-- A decode on channel 8 or 9: the scratchpad port takes every payload (R302). -/
theorem commitTagP_noPeerFault (hc : isSprChan c = true) (fam : TagFamily) (g : Quad) (res : Option TagResult)
    (s : State) : (commitTagP fam c g res s).NoPeerFault := by
  cases res with
  | none => exact ⟨nofun, nofun⟩
  | some r =>
    by_cases hf : (fam = .source && pTte (s.pch c).chcr) = true
    · rw [Bool.and_eq_true, decide_eq_true_eq] at hf
      obtain ⟨rfl, htte⟩ := hf
      cases hfwd : s.cfg.tteFwd[c] with
      | false =>
        rw [commitTagP_noForward htte hfwd]
        exact ⟨nofun, nofun⟩
      | true =>
        rw [commitTagP_forward htte hfwd (by rw [answerP_spr hc])]
        trivial
    · rw [commitTagP_plain (by simpa using hf)]
      trivial

theorem decodeStepP_noPeerFault (hc : isSprChan c = true) (s : State) : (decodeStepP c s).NoPeerFault := by
  have hfetch : ∃ g, fetchTagP s c = some g := by
    unfold fetchTagP unitFromPeerP
    rw [if_pos hc]
    split <;> exact ⟨_, rfl⟩
  obtain ⟨g, hg⟩ := hfetch
  simp only [decodeStepP, hg]
  exact commitTagP_noPeerFault hc _ _ _ _

theorem serviceChannelP_noPeerFault (hc : isSprChan c = true) (s : State) : (serviceChannelP c s).NoPeerFault := by
  unfold serviceChannelP
  split
  · exact ⟨nofun, nofun⟩
  · exact ⟨nofun, nofun⟩
  · unfold normalStepP
    split
    · trivial
    · exact transferUnitP_noPeerFault hc s
  · unfold chainStepP
    split
    · exact transferUnitP_noPeerFault hc s
    · split
      · trivial
      · exact decodeStepP_noPeerFault hc s

end EngineP

/-! ### Services of engine S that move a word -/

section EngineS

variable {c : SChan} {s u : State}

/-- A service whose sub-step is done (R340). -/
theorem ServesS.done (h : ServesS s c) (hsub : serviceChannelS c s = .done u) :
    exec .serviceS s = .next (u.respond (.progress c.val)) := by
  rw [exec_serviceS, execServiceS, h.run, hsub, settle]

/-- The count of a slice, exact in 32 bits (R151, R346). -/
theorem bcrWords_eq (v : Word) :
    bcrWords v = BitVec.ofNat 32 ((v.extractLsb' 0 16).toNat * (v.extractLsb' 16 16).toNat) := by
  apply BitVec.eq_of_toNat_eq
  simp only [bcrWords, BitVec.toNat_mul, BitVec.toNat_setWidth, BitVec.toNat_ofNat]
  rw [Nat.mod_eq_of_lt (by omega : (v.extractLsb' 0 16).toNat < 2 ^ 32),
    Nat.mod_eq_of_lt (by omega : (v.extractLsb' 16 16).toNat < 2 ^ 32)]

/-- Activation writes the count and the flag only (R346). -/
theorem SChannel.started_frame (x : SChannel) :
    x.started = { x with remaining := x.started.remaining, active := x.started.active } := by
  unfold SChannel.started
  split <;> rfl

/-- What a slice step does first: a slice that has not been activated is (R344, R346). -/
theorem activated_eq_started (hm : (s.sch c).chcr.extractLsb' 9 2 = 1) :
    (if (s.sch c).active then s else activateSliceS c s) = s.setSch c (s.sch c).started := by
  unfold SChannel.started
  cases ha : (s.sch c).active with
  | true => simp
  | false => simp [hm, activate_eq, bcrWords_eq]

/-- A channel in Chain mode is started as it is (R348). -/
theorem started_of_chain (hm : (s.sch c).chcr.extractLsb' 9 2 = 3) : (s.sch c).started = s.sch c := by
  unfold SChannel.started
  rw [hm]
  rfl

/-- A service of a channel with words left, in Slice or Chain mode, moves a word of the started channel (R342 to R344,
R348). -/
theorem serviceChannelS_transfer (hp : s.cfg.peerPresentS[c] = true) (hmas : (s.sch c).chcr.getLsbD 1 = false)
    (hm : (s.sch c).chcr.extractLsb' 9 2 = 1 ∨ (s.sch c).chcr.extractLsb' 9 2 = 3)
    (hr : (s.sch c).started.remaining ≠ 0) :
    serviceChannelS c s = transferWordS c (s.setSch c (s.sch c).started) := by
  have hcheck : serviceChannelS c s = modeCheckS c s := if_neg (by rw [hp]; decide)
  rw [hcheck, modeCheckS, if_neg (by rw [sMas, hmas]; decide)]
  rcases hm with h | h
  · rw [(sMode_slice _).2 h]
    show sliceStepS c s = _
    simp only [sliceStepS, activated_eq_started h, State.sch_setSch_self, if_neg hr]
  · rw [(sMode_chain _).2 h]
    rw [started_of_chain h] at hr ⊢
    rw [State.setSch_sch]
    exact if_pos hr

theorem answerS_setSch (s : State) (c d : SChan) (x : SChannel) : answerS (s.setSch c x) d = answerS s d := rfl

/-- A word that a started channel pops and stores (R350). -/
theorem transferWordS_toMemory {x : SChannel} {w : Word} (hd : x.chcr.getLsbD 0 = false)
    (ha : (answerS s c).unit = some w) :
    transferWordS c (s.setSch c x) =
      .done (endOfWordS c (busWriteS x.madr w (afterCallS c (.popS c (some w)) (s.setSch c x)))) := by
  have hdir : ¬sDir ((s.setSch c x).sch c).chcr = true := by rw [State.sch_setSch_self, sDir, hd]; decide
  rw [transferWordS, if_neg hdir, transferToMemoryS_done ((congrArg _ (answerS_setSch s c c x)).trans ha),
    State.sch_setSch_self]

end EngineS

end Sys2Proof.Machine

open Sys2Proof Sys2Proof.Machine

/-- Settles O37: the sub-step is one pop and one bus write, then the end of the unit. -/
theorem servicePMovesAQuadwordToMemory : Obligations.ServicePMovesAQuadwordToMemory := by
  intro s c q hs hwf hm hq hd h8 h9 ha
  have hsub := (serviceChannelP_toMemory hm hq hd).trans (transferToMemoryP_done (isSprChan_of_ne h8 h9) ha)
  have hends := (((CallsP.refl c s).afterCall (.popP c (some q))).busWriteP (s.pch c).madr q).endOfUnit
  obtain ⟨hread, -, hother⟩ := Memory.writeQuad_stores hwf (busAddrP (s.pch c).madr).toNat q
  refine ⟨_, hs.done hsub, hends, ?_, fun a h => ?_, fun a => ?_⟩
  · rw [State.memP_respond, memP_endOfUnitP, memP_busWriteP, memP_afterCallP, hread]
  · rw [State.memP_respond, memP_endOfUnitP, memP_busWriteP, memP_afterCallP, hother a h]
  · rw [State.spr_respond, spr_endOfUnitP, spr_busWriteP, spr_afterCallP]

/-- Settles O38, by the direction: the peer of these channels is the scratchpad port. -/
theorem servicePMovesScratchpadQuadwords : Obligations.ServicePMovesScratchpadQuadwords := by
  intro s c hs hc hm hq
  have hspr : isSprChan c = true := (isSprChan_iff c).2 hc
  refine ⟨fun hd hwf => ?_, fun hd hwf => ?_⟩
  · have hsub := (serviceChannelP_toPeer hm hq hd).trans (transferToPeerP_spr hspr)
    have hends := (((CallsP.refl c s).record (.memReadP (busAddrP (s.pch c).madr))).sprPut
      (s.memP.readQuad (busAddrP (s.pch c).madr).toNat)).endOfUnit
    obtain ⟨hread, -, hother⟩ := Memory.writeQuad_stores hwf (sprOffset (s.pch c).sadr).toNat
      (s.memP.readQuad (busAddrP (s.pch c).madr).toNat)
    refine ⟨_, _, rfl, hs.done hsub, hends, ?_, fun a h => ?_, fun a => ?_⟩
    · rw [State.spr_respond, spr_endOfUnitP, spr_sprPut, State.spr_record, State.pch_record, hread]
    · rw [State.spr_respond, spr_endOfUnitP, spr_sprPut, State.spr_record, State.pch_record, hother a h]
    · rw [State.memP_respond, memP_endOfUnitP, memP_sprPut, State.memP_record]
  · have hsub := (serviceChannelP_toMemory hm hq hd).trans (transferToMemoryP_spr hspr)
    have hends := ((CallsP.refl c s).afterSprGet.busWriteP (s.pch c).madr (sprReadP s c)).endOfUnit
    obtain ⟨hread, -, hother⟩ := Memory.writeQuad_stores hwf (busAddrP (s.pch c).madr).toNat (sprReadP s c)
    refine ⟨_, _, rfl, hs.done hsub, hends, ?_, fun a h => ?_, fun a => ?_⟩
    · rw [State.memP_respond, memP_endOfUnitP, memP_busWriteP, memP_afterSprGet, hread, sprReadP]
    · rw [State.memP_respond, memP_endOfUnitP, memP_busWriteP, memP_afterSprGet, hother a h]
    · rw [State.spr_respond, spr_endOfUnitP, spr_busWriteP, spr_afterSprGet]

/-- Settles O39: channels 8 and 9 by everything their sub-step can do (`NoPeerFault`); each failure by its sub-step. -/
theorem peerFailuresOfEngineP : Obligations.PeerFailuresOfEngineP := by
  intro s c hs
  refine ⟨fun hc t r hexec hr => ?_, fun h8 h9 hm hq hd ha => ?_, fun h8 h9 hm hq hd ha => ?_,
    fun h8 h9 hm hq hn hp ha => ?_⟩
  · have hnone := serviceChannelP_noPeerFault ((isSprChan_iff c).2 hc) s
    obtain rfl : runServiceP s = t := Host.Outcome.next.inj hexec
    rw [hs.run] at hr
    obtain ⟨u, hu⟩ := settle_fault hr
    rw [hu] at hnone
    exact hnone
  · exact hs.fatal ((serviceChannelP_toPeer hm hq hd).trans (transferToPeerP_full (isSprChan_of_ne h8 h9) ha))
      (((CallsP.refl c s).record (.memReadP (busAddrP (s.pch c).madr))).afterCall _).log
  · exact hs.fatal ((serviceChannelP_toMemory hm hq hd).trans (transferToMemoryP_none (isSprChan_of_ne h8 h9) ha))
      ((CallsP.refl c s).afterCall _).log
  · exact hs.fatal ((serviceChannelP_decode hm hq hn).trans (decodeStepP_underflow hp (isSprChan_of_ne h8 h9) ha))
      ((CallsP.refl c s).afterCall _).log

/-- Settles O51: the sub-step is one pop and one bus write of the started channel, then the end of the word. -/
theorem serviceSMovesAWordToMemory : Obligations.ServiceSMovesAWordToMemory := by
  intro s c w hs hp hwf hmas hm hr hd ha
  have hframe := (s.sch c).started_frame
  have hchcr : (s.sch c).started.chcr = (s.sch c).chcr := by rw [hframe]
  have hmadr : (s.sch c).started.madr = (s.sch c).madr := by rw [hframe]
  have hdrq : (s.sch c).started.drq = (s.sch c).drq := by rw [hframe]
  have hsub := (serviceChannelS_transfer hp hmas hm hr).trans
    (transferWordS_toMemory (by rw [hchcr]; exact hd) ha)
  have hends := ((((CallsS.refl c s).setSch (s.sch c).started).afterCall (.popS c (some w))).busWriteS
    (s.sch c).madr w).endOfWord
  rw [hdrq, answerS_setSch] at hends
  rw [hmadr] at hsub
  obtain ⟨hread, -, hother⟩ := Memory.writeWord_stores hwf (busAddrS (s.sch c).madr).toNat w
  refine ⟨_, hs.done hsub, hends, ?_, fun a h => ?_⟩
  · rw [State.memS_respond, memS_endOfWordS, memS_busWriteS, memS_afterCallS, State.memS_setSch, hread]
  · rw [State.memS_respond, memS_endOfWordS, memS_busWriteS, memS_afterCallS, State.memS_setSch, hother a h]

/-- Settles O9: the step stores one unit at the aligned address; the bytes of a unit read are those of its addresses. -/
theorem outsideWritesStoreOneUnit : Obligations.OutsideWritesStoreOneUnit := by
  refine ⟨fun s rest => ⟨fun a v hp hwf => ?_, fun a v hp hwf => ?_, fun a v hp hwf => ?_⟩,
    fun m a => ⟨fun i hi => Memory.byte_readQuad m a hi, fun i hi => Memory.byte_readWord m a hi⟩⟩
  · exact ⟨_, step_cons hp, Memory.writeQuad_stores hwf _ v⟩
  · exact ⟨_, step_cons hp, Memory.writeWord_stores hwf _ v⟩
  · exact ⟨_, step_cons hp, Memory.writeQuad_stores hwf _ v⟩

end

section
/-! PROOFS. Register writes of an engine that is not halted (40_register_file.md, 60_exceptions.md R410, R415): plain
storage, the start of a channel of engine P, and the interrupt registers, whose write re-evaluates the master flag; the
modes engine P does not model (R292), and the engine S tag (R275). -/

namespace Sys2Proof.Machine

/-! ### Writes -/

section Writes

variable {s t : State} {i : Instr}

/-- An instruction that is a write of engine P, not halted, leaves the state it stores (R403). -/
theorem exec_write_P (h : s.engP.fault = none) (hi : exec i s = .next (writeReg .P t s)) :
    exec i s = .next { t with response := .done } :=
  hi.trans (congrArg _ (writeReg_next t (by rw [halted_P, h]; rfl)))

theorem exec_write_S (h : s.engS.fault = none) (hi : exec i s = .next (writeReg .S t s)) :
    exec i s = .next { t with response := .done } :=
  hi.trans (congrArg _ (writeReg_next t (by rw [halted_S, h]; rfl)))

/-- A write that leaves engine P as e, then re-evaluates the master flag (R209, R410, R411). -/
theorem exec_reeval_P {e : EngineP} (h : s.engP.fault = none)
    (hi : exec i s = .next (writeReg .P (reevalP (s.setEngP e)) s)) :
    exec i s = .next { s with
      engP := { e with master := masterP e.cis e.cim }
      log := s.log ++ if masterP e.cis e.cim && !e.master then [.intcRaise .P] else []
      response := .done } := by
  rw [exec_write_P h hi, reevalP_eq]
  rfl

/-- A write that leaves engine S as e, then re-evaluates the master flag (R233, R235, R415, R416). -/
theorem exec_reeval_S {e : EngineS} (h : s.engS.fault = none)
    (hi : exec i s = .next (writeReg .S (reevalS (s.setEngS e)) s)) :
    exec i s = .next { s with
      engS := { e with mif := masterS e }
      log := s.log ++ if masterS e && !e.mif && !mid e.dmacinten then [.intcRaise .S] else []
      response := .done } := by
  rw [exec_write_S h hi, reevalS_eq]
  rfl

end Writes

/-- Engine S's master flag, its two pending sets apart (R415). -/
theorem masterS_eq (e : EngineS) :
    masterS e = (e.be || (e.mie && ((e.ip1 != 0) || (e.ip2 != 0))) || (e.tip != 0)) := by
  rw [masterS, pending_or_ne_zero]

/-! ### What a write stores -/

/-- A start clears the hidden state of engine P's channel (R195). -/
theorem PChannel.chcrWritten_start {x : PChannel} {v : Word} (h0 : x.chcr.getLsbD 8 = false)
    (h1 : v.getLsbD 8 = true) :
    x.chcrWritten v = { x with chcr := v &&& 0xFFFF01FD, hasTag := false, chainEnded := false } := by
  rw [chcrWritten, if_pos (by rw [pStr, pStr, h0, h1]; rfl)]
  rfl

/-- A write of CHCR that starts nothing keeps it (R195). -/
theorem PChannel.chcrWritten_noStart {x : PChannel} {v : Word}
    (h : x.chcr.getLsbD 8 = true ∨ v.getLsbD 8 = false) :
    x.chcrWritten v = { x with chcr := v &&& 0xFFFF01FD } := by
  rw [chcrWritten, if_neg]
  · rfl
  · rw [pStr, pStr, Bool.and_eq_true, Bool.not_eq_true']
    rintro ⟨h0, h1⟩
    rcases h with h | h
    · rw [h0] at h; cases h
    · rw [h1] at h; cases h

/-- A bit of a field: that of the value at the field's place. -/
theorem getLsbD_field (v : Word) (k : Nat) {n i : Nat} (hi : i < n) :
    (v.extractLsb' k n).getLsbD i = v.getLsbD (k + i) := by
  rw [BitVec.getLsbD_extractLsb', decide_eq_true hi, Bool.true_and]

/-- Write-1-to-clear, by the bit (R209, R233, R235). -/
theorem getLsbD_clearedBy {n : Nat} (x : BitVec n) (v : Word) (k i : Nat) :
    (x &&& ~~~(v.extractLsb' k n)).getLsbD i = (x.getLsbD i && !v.getLsbD (k + i)) := by
  rw [BitVec.getLsbD_and, BitVec.getLsbD_not]
  by_cases hi : i < n
  · rw [getLsbD_field v k hi, decide_eq_true hi, Bool.true_and]
  · rw [BitVec.getLsbD_of_ge x i (Nat.le_of_not_lt hi), Bool.false_and, Bool.false_and]

/-- XOR-toggle, by the bit (R209). -/
theorem getLsbD_toggledBy {n : Nat} (x : BitVec n) (v : Word) (k : Nat) {i : Nat} (hi : i < n) :
    (x ^^^ v.extractLsb' k n).getLsbD i = (x.getLsbD i ^^ v.getLsbD (k + i)) := by
  rw [BitVec.getLsbD_xor, getLsbD_field v k hi]

/-! ### Modes that engine P does not model -/

/-- A service of a channel in Interleave or the reserved mode makes no call (R292). -/
theorem serviceChannelP_unmodelledMode {s : State} {c : PChan}
    (hm : (s.pch c).chcr.extractLsb' 2 2 = 2 ∨ (s.pch c).chcr.extractLsb' 2 2 = 3) :
    serviceChannelP c s = .fatal (unmodelledModeP c (s.pch c).chcr) s := by
  unfold serviceChannelP
  rcases hm with h | h
  · rw [(pMode_interleave _).2 h]
  · rw [(pMode_reserved _).2 h]

end Sys2Proof.Machine

open Sys2Proof Sys2Proof.Machine

/-- Settles O16: each row is a write of engine P that stores one field. -/
theorem plainWritesOfEngineP : Obligations.PlainWritesOfEngineP := by
  intro s v hf
  exact ⟨fun c => ⟨exec_write_P hf (exec_wrPMadr c v s), exec_write_P hf (exec_wrPQwc c v s),
    exec_write_P hf (exec_wrPTadr c v s), exec_write_P hf (exec_wrPAsr0 c v s), exec_write_P hf (exec_wrPAsr1 c v s),
    exec_write_P hf (exec_wrPSadr c v s)⟩, exec_write_P hf (exec_wrPDCtrl v s), exec_write_P hf (exec_wrPDPcr v s)⟩

/-- Settles O17, by whether the write starts the channel. -/
theorem writesOfPChcr : Obligations.WritesOfPChcr := by
  intro s c v hf
  have hrun : exec (.wrPChcr c v) s = .next { s.setPch c ((s.pch c).chcrWritten v) with response := .done } :=
    exec_write_P hf (exec_wrPChcr c v s)
  exact ⟨fun h0 h1 => by rw [hrun, PChannel.chcrWritten_start h0 h1],
    fun h => by rw [hrun, PChannel.chcrWritten_noStart h]⟩

/-- Settles O18: the write leaves the engine of `dStatWritten`, re-evaluated. -/
theorem writesOfDStat : Obligations.WritesOfDStat := by
  intro s v hf
  have hcis : ∀ i, (s.engP.dStatWritten v).cis.getLsbD i = (s.engP.cis.getLsbD i && !v.getLsbD i) := fun i =>
    (getLsbD_clearedBy s.engP.cis v 0 i).trans (by rw [Nat.zero_add])
  exact ⟨_, _, hcis, fun i hi => getLsbD_toggledBy s.engP.cim v 16 hi, exec_reeval_P hf (exec_wrPDStat v s)⟩

/-- Settles O22: the write leaves the engine of `dicrWritten`, re-evaluated. -/
theorem writesOfDicr : Obligations.WritesOfDicr := by
  intro s v hf
  exact ⟨_, _, _, fun i hi => getLsbD_field v 16 hi, fun i _ => getLsbD_clearedBy s.engS.ip1 v 24 i,
    masterS_eq (s.engS.dicrWritten v), exec_reeval_S hf (exec_wrSDicr v s)⟩

/-- Settles O23: the write leaves the engine of `dicr2Written`, re-evaluated. -/
theorem writesOfDicr2 : Obligations.WritesOfDicr2 := by
  intro s v hf
  have htip : ∀ i, (s.engS.dicr2Written v).tip.getLsbD i = (s.engS.tip.getLsbD i && !v.getLsbD i) := fun i =>
    (getLsbD_clearedBy s.engS.tip v 0 i).trans (by rw [Nat.zero_add])
  exact ⟨_, _, _, _, fun i _ => htip i, fun i hi => getLsbD_field v 16 hi,
    fun i _ => getLsbD_clearedBy s.engS.ip2 v 24 i, masterS_eq (s.engS.dicr2Written v),
    exec_reeval_S hf (exec_wrSDicr2 v s)⟩

/-- Settles O40: the sub-step is fatal in the state it began in. -/
theorem unmodelledModesOfEngineP : Obligations.UnmodelledModesOfEngineP := by
  intro s c hs hm
  rw [exec_serviceP, execServiceP, hs.run, serviceChannelP_unmodelledMode hm, settle, takeFatal_P]
  rfl

/-- Settles O48: the tag row is the end of a tag step (`CallsS.commitTag`), with no call made before it. -/
theorem engineSTagDecodes : Obligations.EngineSTagDecodes := by
  intro s c g hf
  obtain ⟨u, hsub, hends, hmem⟩ := (CallsS.refl c s).commitTag g
  refine ⟨u.respond (.progress c.val), ?_, hends, fun a => by rw [State.memS_respond, hmem]⟩
  have hn : halted .S s = false := by rw [halted_S, hf]; rfl
  rw [exec_sTag, execSTag, runTagS, if_neg (by rw [hn]; decide), hsub, settle]

end

section
/-! PROOFS. The rows of the decoder (40_register_file.md R190, 41_tag_decoder.md R253): the instruction of a row encodes to
the access it is the row of, and is well formed; and so are the tag rows. -/

namespace Sys2Proof

variable {r : RegRef} {c : SChan} {k : Nat} {w : AccessWidth} {v : Word} {i : Instr}

/-! ### What was decoded -/

/-- A decoded read is the row of the register and the byte offset that its address names. -/
theorem decode_read_ok {a : Word} (h : decode (.read a w) = .ok i) :
    ∃ r k, a = BitVec.ofNat 32 (r.address + k) ∧ readRow r k w = some i := by
  simp only [decode] at h
  split at h
  · cases h
  · next r k haddr =>
    obtain ⟨-, -, -, -, ha⟩ := decodeAddress_ok haddr
    split at h
    · next hrow => exact ⟨r, k, ha, by rw [hrow, Except.ok.inj h]⟩
    · cases h

/-- The same for a write. -/
theorem decode_write_ok {a : Word} (h : decode (.write a w v) = .ok i) :
    ∃ r k, a = BitVec.ofNat 32 (r.address + k) ∧ writeRow r k w v = some i := by
  simp only [decode] at h
  split at h
  · cases h
  · next r k haddr =>
    obtain ⟨-, -, -, -, ha⟩ := decodeAddress_ok haddr
    split at h
    · next hrow => exact ⟨r, k, ha, by rw [hrow, Except.ok.inj h]⟩
    · cases h

/-! ### Rows of a whole register -/

theorem readRow_word_wellFormed (cfg : Config) (h : readRow r 0 .w32 = some i) : i.wellFormed cfg = true := by
  cases r with
  | pCh c q =>
    cases q <;> obtain rfl := Option.some.inj h
    case chcr => exact wellFormed_rdPChcr cfg c
    case madr => exact wellFormed_rdPMadr cfg c
    case qwc => exact wellFormed_rdPQwc cfg c
    case tadr => exact wellFormed_rdPTadr cfg c
    case asr0 => exact wellFormed_rdPAsr0 cfg c
    case asr1 => exact wellFormed_rdPAsr1 cfg c
    case sadr => exact wellFormed_rdPSadr cfg c
  | sCh c q =>
    cases q <;> obtain rfl := Option.some.inj h
    case madr => exact wellFormed_rdSMadr cfg c
    case bcr => exact wellFormed_rdSBcrAt0 cfg c .w32
    case chcr => exact wellFormed_rdSChcr cfg c
    case tadr => exact wellFormed_rdSTadr cfg c
  | pWide q => cases q <;> obtain rfl := Option.some.inj h <;> rfl
  | sWide q => cases q <;> obtain rfl := Option.some.inj h <;> rfl

/-- A 32-bit write drops no bit of its value, and is well formed with every value. -/
theorem writeRow_word (h : writeRow r 0 .w32 v = some i) :
    encode i = .op (.write (BitVec.ofNat 32 r.address) .w32 v) ∧ ∀ cfg, i.wellFormed cfg = true := by
  cases r with
  | pCh c q =>
    cases q <;> obtain rfl := Option.some.inj h
    case chcr => exact ⟨encode_wrPChcr c v, (wellFormed_wrPChcr · c v)⟩
    case madr => exact ⟨encode_wrPMadr c v, (wellFormed_wrPMadr · c v)⟩
    case qwc => exact ⟨encode_wrPQwc c v, (wellFormed_wrPQwc · c v)⟩
    case tadr => exact ⟨encode_wrPTadr c v, (wellFormed_wrPTadr · c v)⟩
    case asr0 => exact ⟨encode_wrPAsr0 c v, (wellFormed_wrPAsr0 · c v)⟩
    case asr1 => exact ⟨encode_wrPAsr1 c v, (wellFormed_wrPAsr1 · c v)⟩
    case sadr => exact ⟨encode_wrPSadr c v, (wellFormed_wrPSadr · c v)⟩
  | sCh c q =>
    cases q <;> obtain rfl := Option.some.inj h
    case madr => exact ⟨encode_wrSMadr c v, (wellFormed_wrSMadr · c v)⟩
    case bcr => exact ⟨encode_wrSBcrAt0 c .w32 v, (wellFormed_wrSBcrAt0 · c .w32 v)⟩
    case chcr => exact ⟨encode_wrSChcr c v, (wellFormed_wrSChcr · c v)⟩
    case tadr => exact ⟨encode_wrSTadr c v, (wellFormed_wrSTadr · c v)⟩
  | pWide q => cases q <;> obtain rfl := Option.some.inj h <;> exact ⟨rfl, fun _ => rfl⟩
  | sWide q => cases q <;> obtain rfl := Option.some.inj h <;> exact ⟨rfl, fun _ => rfl⟩

/-! ### Rows of a lane of BCR -/

theorem readRow_bcr_wellFormed (cfg : Config) (hr : r = .sCh c .bcr) (h : readRow r k w = some i) :
    i.wellFormed cfg = true := by
  unfold readRow at h
  split at h <;> cases hr <;> cases h
  case h_1 => exact wellFormed_rdSBcrAt0 cfg c w
  case h_2 => exact wellFormed_rdSBcrAt1 cfg c
  case h_3 => exact wellFormed_rdSBcrAt2 cfg c .w8
  case h_4 => exact wellFormed_rdSBcrAt2 cfg c .w16
  case h_5 => exact wellFormed_rdSBcrAt3 cfg c

/-- The value of an access has its width (R190). -/
theorem valueFits_accessValue (w : AccessWidth) (v : Word) : valueFits w (accessValue w v) = true := by
  cases w with
  | w8 => simp only [valueFits, accessValue, BitVec.toNat_setWidth, decide_eq_true_eq]; omega
  | w16 => simp only [valueFits, accessValue, BitVec.toNat_setWidth, decide_eq_true_eq]; omega
  | w32 => rfl

theorem laneFits_setWidth_8 (v : Word) : laneFits .w8 ((v.setWidth 8).setWidth 16) = true := by
  simp only [laneFits, BitVec.toNat_setWidth, decide_eq_true_eq]; omega

/-- A write of a lane of BCR is well formed, and drops no bit of a value that fits it. -/
theorem writeRow_bcr (hr : r = .sCh c .bcr) (h : writeRow r k w v = some i) :
    (valueFits w v = true → encode i = .op (.write (BitVec.ofNat 32 (r.address + k)) w v)) ∧
      ∀ cfg, i.wellFormed cfg = true := by
  unfold writeRow at h
  split at h <;> cases hr <;> cases h
  case h_1 =>
    refine ⟨fun hv => ?_, fun cfg => ?_⟩
    · rw [encode_wrSBcrAt0, accessValue_fits hv]; rfl
    · rw [wellFormed_wrSBcrAt0, valueFits_accessValue]
  case h_2 =>
    refine ⟨fun hv => ?_, (wellFormed_wrSBcrAt1 · c _)⟩
    rw [encode_wrSBcrAt1]
    exact congrArg (fun x => Encoding.op (.write _ .w8 x)) (accessValue_fits hv)
  case h_3 =>
    refine ⟨fun hv => ?_, fun cfg => ?_⟩
    · rw [encode_wrSBcrAt2, BitVec.setWidth_setWidth (by decide)]
      exact congrArg (fun x => Encoding.op (.write _ .w8 x)) (accessValue_fits hv)
    · rw [wellFormed_wrSBcrAt2, laneFits_setWidth_8]
  case h_4 =>
    refine ⟨fun hv => ?_, fun cfg => wellFormed_wrSBcrAt2 cfg c .w16 _⟩
    rw [encode_wrSBcrAt2]
    exact congrArg (fun x => Encoding.op (.write _ .w16 x)) (accessValue_fits hv)
  case h_5 =>
    refine ⟨fun hv => ?_, (wellFormed_wrSBcrAt3 · c _)⟩
    rw [encode_wrSBcrAt3]
    exact congrArg (fun x => Encoding.op (.write _ .w8 x)) (accessValue_fits hv)

/-! ### Every row -/

/-- A read row is well formed. -/
theorem readRow_wellFormed (cfg : Config) (h : readRow r k w = some i) : i.wellFormed cfg = true := by
  obtain ⟨rfl, rfl⟩ | ⟨⟨c, hr⟩, -⟩ := takes_of_readRow h
  · exact readRow_word_wellFormed cfg h
  · exact readRow_bcr_wellFormed cfg hr h

/-- A write row encodes to its access, where the value has the width of the access, and is well formed with any (R190). -/
theorem writeRow_spec (h : writeRow r k w v = some i) :
    (valueFits w v = true → encode i = .op (.write (BitVec.ofNat 32 (r.address + k)) w v)) ∧
      ∀ cfg, i.wellFormed cfg = true := by
  obtain ⟨rfl, rfl⟩ | ⟨⟨c, hr⟩, -⟩ := takes_of_writeRow h
  · obtain ⟨henc, hwf⟩ := writeRow_word h
    exact ⟨fun _ => henc, hwf⟩
  · exact writeRow_bcr hr h

/-! ### Tags -/

/-- A tag is packed again from its fields and its ID (R157). -/
theorem packPTag_of_tagId {t : Quad} {n : Fin 8} (h : (tagId t).toFin = n) :
    packPTag (BitVec.ofFin n) (unpackPTag t) = t := by
  subst h
  exact pack_unpack t

theorem encode_decodePTag (fam : TagFamily) (c : PChan) (t : Quad) :
    encode (decodePTag fam c t) = .pTag fam c t := by
  unfold decodePTag
  split <;> exact congrArg (Encoding.pTag _ c) (packPTag_of_tagId ‹_›)

theorem encode_decodeSTag (c : SChan) (w0 w1 : Word) : encode (decodeSTag c w0 w1) = .sTag c w0 w1 :=
  congrArg (Encoding.sTag c · w1) (packS_unpack w0 w1)

/-- A tag row of a family is well formed where the channel selects that family (R253). -/
theorem decodePTag_wellFormed {cfg : Config} {fam : TagFamily} {c : PChan} (h : familyOfP cfg c = fam) (t : Quad) :
    (decodePTag fam c t).wellFormed cfg = true := by
  unfold decodePTag
  split <;> exact beq_iff_eq.2 h

end Sys2Proof

open Sys2Proof Sys2Proof.Machine

/-- Settles O2, by the operation: a register access is the one that its row encodes to; a tag is packed again from what was
unpacked. -/
theorem encodeOfDecodeIsIdentity : Obligations.EncodeOfDecodeIsIdentity := by
  refine ⟨fun o i h hfits => ?_, encode_decodePTag, encode_decodeSTag⟩
  cases o with
  | read a w =>
    obtain ⟨r, k, rfl, hrow⟩ := decode_read_ok h
    exact encode_readRow hrow
  | write a w v =>
    obtain ⟨r, k, rfl, hrow⟩ := decode_write_ok h
    exact (writeRow_spec hrow).1 (hfits _ _ _ rfl)
  | _ =>
    obtain rfl := Except.ok.inj h
    rfl

/-- Settles O3, by the operation: an access has a row (`readRow_wellFormed`, `writeRow_spec`), a tag the family asked for. -/
theorem decodeYieldsWellFormed : Obligations.DecodeYieldsWellFormed := by
  refine fun cfg => ⟨fun o i h => ?_, fun c t => decodePTag_wellFormed rfl t, fun _ _ _ => rfl⟩
  cases o with
  | read a w =>
    obtain ⟨r, k, -, hrow⟩ := decode_read_ok h
    exact readRow_wellFormed cfg hrow
  | write a w v =>
    obtain ⟨r, k, -, hrow⟩ := decode_write_ok h
    exact (writeRow_spec hrow).2 cfg
  | _ =>
    obtain rfl := Except.ok.inj h
    rfl

end

section
/-! PROOFS. Register accesses as 40_register_file.md states them over every register: plain writes and BCR lanes of engine S,
the write-back of a value read (R240), the mask toggles of D_STAT (R241), and what a read can see (R242). -/

namespace Sys2Proof.Machine

variable {s : State}

/-! ### Lanes of BCR -/

/-- The bits of a register narrower than a word are the low bits of its widening. -/
theorem getLsbD_widened {n : Nat} (v : BitVec n) {i : Nat} (hi : i < 32) :
    (v.setWidth 32).getLsbD i = v.getLsbD i := by
  rw [BitVec.getLsbD_setWidth, decide_eq_true hi, Bool.true_and]

/-- A byte lane of BCR written (R223). -/
theorem bcrWrite_byte {n : Nat} (old : Word) (v : BitVec n) (k : Nat) {i : Nat} (hi : i < 32) :
    (bcrWrite old k .w8 (v.setWidth 32)).getLsbD i =
      if 8 * k ≤ i ∧ i < 8 * k + 8 then v.getLsbD (i - 8 * k) else old.getLsbD i := by
  rw [mask_lane8 old _ k i hi, getLsbD_widened v (by omega)]

/-- A half-word lane of BCR written (R223). -/
theorem bcrWrite_half {n : Nat} (old : Word) (v : BitVec n) (k : Nat) {i : Nat} (hi : i < 32) :
    (bcrWrite old k .w16 (v.setWidth 32)).getLsbD i =
      if 8 * k ≤ i ∧ i < 8 * k + 16 then v.getLsbD (i - 8 * k) else old.getLsbD i := by
  rw [mask_lane16 old _ k i hi, getLsbD_widened v (by omega)]

/-! ### Writing back the value read (R240) -/

/-- A field of a register survives its widening. -/
theorem extractLsb'_widened {n : Nat} (v : BitVec n) (h : n ≤ 32) : (v.setWidth 32).extractLsb' 0 n = v := by
  rw [← BitVec.setWidth_eq_extractLsb' h, BitVec.setWidth_setWidth_of_le _ h, BitVec.setWidth_eq]

/-- A word without reserved bits is unchanged under the mask of the others. -/
theorem and_eq_self_of_and_not {v m : Word} (h : v &&& ~~~m = 0) : v &&& m = v := by
  calc
    v &&& m = v &&& m ||| v &&& ~~~m := by rw [h]; exact BitVec.or_zero.symm
    _ = v &&& (m ||| ~~~m) := BitVec.and_or_distrib_left.symm
    _ = v := by rw [BitVec.or_not_self, BitVec.and_allOnes]

/-- Writing back CHCR starts nothing, since STR does not change (R195). -/
theorem PChannel.chcrWritten_chcr {x : PChannel} (hx : x.sound = true) : x.chcrWritten x.chcr = x := by
  obtain ⟨hres, -⟩ := (PChannel.sound_iff x).1 hx
  rw [chcrWritten, Bool.not_and_self, and_eq_self_of_and_not hres]
  rfl

theorem SChannel.chcrWritten_chcr (x : SChannel) : x.chcrWritten x.chcr = x := by
  rw [chcrWritten, Bool.not_and_self]
  rfl

theorem PChannel.written_value {x : PChannel} (hx : x.sound = true) (q : PReg) : x.written (x.value q) q = x := by
  cases q with
  | chcr => exact chcrWritten_chcr hx
  | qwc => exact congrArg (fun n => { x with qwc := n }) (extractLsb'_widened x.qwc (by decide))
  | sadr => exact congrArg (fun n => { x with sadr := n }) (extractLsb'_widened x.sadr (by decide))
  | _ => rfl

theorem SChannel.written_value (x : SChannel) (q : SReg) : x.written (x.value q) q = x := by
  cases q with
  | madr => exact congrArg (fun n => { x with madr := n }) (extractLsb'_widened x.madr (by decide))
  | bcr => rfl
  | chcr => exact x.chcrWritten_chcr
  | tadr => exact congrArg (fun n => { x with tadr := n }) (extractLsb'_widened x.tadr (by decide))

/-- The write row of a plain-storage register, with the value the register reads, stores the state it began in. -/
theorem writeRow_regValue (hs : s.Inv) {r : RegRef} (hr : plainStorage r = true) :
    ∃ i, writeRow r 0 .w32 (regValue s r) = some i ∧ exec i s = .next (writeReg r.engine s s) := by
  cases r with
  | pCh c q =>
    obtain ⟨i, hrow, hexec⟩ := writeRow_pCh c q (regValue s (.pCh c q))
    refine ⟨i, hrow, (hexec s).trans ?_⟩
    rw [regValue_pCh, PChannel.written_value (hs.pSound c), State.setPch_pch]
    rfl
  | sCh c q =>
    obtain ⟨i, hrow, hexec⟩ := writeRow_sCh c q (regValue s (.sCh c q))
    refine ⟨i, hrow, (hexec s).trans ?_⟩
    rw [regValue_sCh, SChannel.written_value, State.setSch_sch]
    rfl
  | pWide q =>
    obtain ⟨i, hrow, hexec⟩ := writeRow_pWide hr (regValue s (.pWide q))
    refine ⟨i, hrow, (hexec s).trans ?_⟩
    cases q with
    | dStat => cases hr
    | _ => rfl
  | sWide q =>
    obtain ⟨i, hrow, hexec⟩ := writeRow_sWide hr (regValue s (.sWide q))
    refine ⟨i, hrow, (hexec s).trans ?_⟩
    cases q with
    | dicr => cases hr
    | dicr2 => cases hr
    | _ => rfl

/-! ### Toggles of the mask of D_STAT (R241) -/

/-- A value at the mask bits of D_STAT has no pending bit (R147). -/
theorem dStatClear_maskBits (m : BitVec 10) : dStatClear (m.setWidth 32 <<< 16) = 0 := by
  apply BitVec.eq_of_getLsbD_eq
  intro i hi
  rw [dStatClear, getLsbD_field _ 0 hi, Nat.zero_add, BitVec.getLsbD_shiftLeft, decide_eq_true (by omega : i < 16)]
  simp

theorem dStatToggle_maskBits (m : BitVec 10) : dStatToggle (m.setWidth 32 <<< 16) = m := by
  apply BitVec.eq_of_getLsbD_eq
  intro i hi
  have hword : 16 + i < 32 := by omega
  rw [dStatToggle, getLsbD_field _ 16 hi, BitVec.getLsbD_shiftLeft, Nat.add_sub_cancel_left,
    getLsbD_widened m (by omega)]
  simp [hword]

/-- Such a value toggles the mask and clears nothing (R209). -/
theorem EngineP.dStatWritten_maskBits (e : EngineP) (m : BitVec 10) :
    e.dStatWritten (m.setWidth 32 <<< 16) = { e with cim := e.cim ^^^ m } := by
  have hcis : e.cis &&& ~~~0 = e.cis := BitVec.and_allOnes
  rw [dStatWritten, dStatClear_maskBits, dStatToggle_maskBits, hcis]

/-- A write of D_STAT by its address (R209, R410, R411). -/
theorem runOperation_write_dStat (hf : s.engP.fault = none) (v : Word) :
    runOperation (.write 0x1000E010 .w32 v) s = .next { s with
      engP := { s.engP.dStatWritten v with
        master := masterP (s.engP.dStatWritten v).cis (s.engP.dStatWritten v).cim }
      log := s.log ++
        if masterP (s.engP.dStatWritten v).cis (s.engP.dStatWritten v).cim && !s.engP.master then [.intcRaise .P] else []
      response := .done } :=
  (runOperation_ok (decode_write0 (.pWide .dStat) .w32 v) s).trans (exec_reeval_P hf (exec_wrPDStat v s))

/-- A toggle of the mask: CIM under m, CIS kept, and at most a raise added to the log. -/
theorem toggle_dStat (hf : s.engP.fault = none) (m : BitVec 10) :
    ∃ t, runOperation (.write 0x1000E010 .w32 (m.setWidth 32 <<< 16)) s = .next t ∧ t.engP.fault = none ∧
      t.engP.cim = s.engP.cim ^^^ m ∧ t.engP.cis = s.engP.cis ∧ ∃ l, t.log = s.log ++ l := by
  have hrun := runOperation_write_dStat hf (m.setWidth 32 <<< 16)
  rw [EngineP.dStatWritten_maskBits] at hrun
  exact ⟨_, hrun, hf, rfl, rfl, _, rfl⟩

/-! ### What a read can see (R242) -/

theorem readReg_response (e : Engine) (v : Word) (s : State) :
    (readReg e v s).response = if halted e s then .noStep else .value v := by
  unfold readReg
  split <;> rfl

theorem takeFatal_response (e : Engine) (s0 s1 : State) (r : FaultRecord) :
    (takeFatal e s0 s1 r).response = .fault r := by
  cases e <;> rfl

/-- An access that engine e refuses with record r: no step of a halted engine, or its fatal error (R400, R403). -/
theorem refusal_response (e : Engine) (r : FaultRecord) (s : State) :
    ∃ t, (if halted e s then Host.Outcome.next (s.respond .noStep) else .next (takeFatal e s s r) :
        Host.Outcome State Fault Refusal) = .next t ∧
      t.response = if halted e s then .noStep else .fault r := by
  split
  · exact ⟨_, rfl, rfl⟩
  · exact ⟨_, rfl, takeFatal_response e s s r⟩

/-- A rejected access that reaches the core is refused by one engine with one record, in every state (R109, R111). -/
theorem rejectAccess_response {err : DecodeError} (h : ∀ a, err ≠ .outsideWindows a) :
    ∃ e r, ∀ s, ∃ t, rejectAccess err s = .next t ∧ t.response = if halted e s then .noStep else .fault r := by
  cases err with
  | outsideWindows a => exact absurd rfl (h a)
  | unmodelledRegister e a w k => exact ⟨e, _, refusal_response e _⟩
  | unsupportedWidth r a w k => exact ⟨r.engine, _, refusal_response r.engine _⟩

/-- A read in a window is not refused for its window (R109). -/
theorem decode_read_error {a : Word} {w : AccessWidth} {err : DecodeError} (hw : windowOf a ≠ none)
    (h : decode (.read a w) = .error err) (a' : Word) : err ≠ .outsideWindows a' := by
  rintro rfl
  obtain ⟨e, he⟩ := Option.ne_none_iff_exists'.1 hw
  simp only [decode, decodeAddress, he] at h
  cases hl : lookupReg e (wordAddress a) with
  | none => simp [hl] at h
  | some r =>
    simp only [hl] at h
    split at h <;> cases h

/-- What a read in a window answers is a function of the registers, of an engine that is not halted (R190, R242, R403). -/
theorem runOperation_read_response {a : Word} (hw : windowOf a ≠ none) (w : AccessWidth) :
    ∃ (e : Engine) (f : (RegRef → Word) → Response), ∀ s, ∃ t, runOperation (.read a w) s = .next t ∧
      t.response = if halted e s then .noStep else f (regValue s) := by
  cases hd : decode (.read a w) with
  | ok i =>
    obtain ⟨r, k, -, hrow⟩ := decode_read_ok hd
    refine ⟨r.engine, fun g => .value (bcrRead (g r) k w), fun s => ?_⟩
    exact ⟨_, (runOperation_ok hd s).trans (readRow_regValue hrow s), readReg_response _ _ s⟩
  | error err =>
    obtain ⟨e, r, h⟩ := rejectAccess_response (decode_read_error hw hd)
    exact ⟨e, fun _ => .fault r, fun s => by rw [runOperation_error hd]; exact h s⟩

theorem halted_congr {s t : State} (hP : s.engP.fault.isSome = t.engP.fault.isSome)
    (hS : s.engS.fault.isSome = t.engS.fault.isSome) (e : Engine) : halted e s = halted e t := by
  cases e with
  | P => exact hP
  | S => exact hS

end Sys2Proof.Machine

open Sys2Proof Sys2Proof.Machine

/-- Settles O19: each row is a write of engine S that stores one field. -/
theorem plainWritesOfEngineS : Obligations.PlainWritesOfEngineS := by
  intro s v hf
  exact ⟨fun c => ⟨exec_write_S hf (exec_wrSMadr c v s), exec_write_S hf (exec_wrSTadr c v s)⟩,
    exec_write_S hf (exec_wrSDpcr v s), exec_write_S hf (exec_wrSDpcr2 v s), exec_write_S hf (exec_wrSDmacen v s),
    exec_write_S hf (exec_wrSDmacinten v s)⟩

/-- Settles O20: each row is a write of engine S that stores a lane; the bits by the width of the lane. -/
theorem writesOfBcrLanes : Obligations.WritesOfBcrLanes := by
  intro s c hf
  refine ⟨fun w v => ⟨_, exec_write_S hf (exec_wrSBcrAt0 c w v s), fun i hi => ?_⟩,
    fun v => ⟨_, exec_write_S hf (exec_wrSBcrAt1 c v s), fun i hi => bcrWrite_byte _ v 1 hi⟩,
    fun w v => ⟨_, exec_write_S hf (exec_wrSBcrAt2 c w v s), fun i hi => ?_⟩,
    fun v => ⟨_, exec_write_S hf (exec_wrSBcrAt3 c v s), fun i hi => ?_⟩⟩
  · cases w with
    | w8 => simpa using mask_lane8 (s.sch c).bcr v 0 i hi
    | w16 => simpa using mask_lane16 (s.sch c).bcr v 0 i hi
    | w32 => exact (if_pos hi).symm
  · cases w with
    | w8 => exact bcrWrite_byte _ v 2 hi
    | w16 => exact bcrWrite_half _ v 2 hi
  · simpa [hi] using bcrWrite_byte (s.sch c).bcr v 3 hi

/-- Settles O24: the row of the register stores what is there. -/
theorem writeBackChangesNothing : Obligations.WriteBackChangesNothing := by
  intro s r hs hr hf
  obtain ⟨i, hrow, hexec⟩ := writeRow_regValue hs hr
  have hdec : decode (.write (BitVec.ofNat 32 r.address) .w32 (regValue s r)) = .ok i := by rw [decode_write0, hrow]
  rw [runOperation_ok hdec, hexec, writeReg_next s (halted_of_faultOf_none hf)]
  rfl

/-- Settles O26: each write toggles CIM by m and clears nothing (`toggle_dStat`), and the log only grows. -/
theorem maskToggledTwiceIsRestored : Obligations.MaskToggledTwiceIsRestored := by
  intro s m hf
  obtain ⟨t, ht, hft, hcim, hcis, -⟩ := toggle_dStat hf m
  obtain ⟨u, hu, -, hcim', hcis', hlog⟩ := toggle_dStat hft m
  have hback : u.engP.cim = s.engP.cim := by
    rw [hcim', hcim, BitVec.xor_assoc, BitVec.xor_self, BitVec.xor_zero]
  exact ⟨t, u, ht, hu, hback, hcis'.trans hcis, hlog⟩

/-- Settles O27: what a read answers is a function of the registers and of which engine is halted. -/
theorem readsSeeRegistersOnly : Obligations.ReadsSeeRegistersOnly := by
  intro s t hregs hP hS a w hw
  obtain ⟨e, f, h⟩ := runOperation_read_response hw w
  obtain ⟨s', hs', hsr⟩ := h s
  obtain ⟨t', ht', htr⟩ := h t
  exact ⟨s', t', hs', ht', by rw [hsr, htr, halted_congr hP hS e, funext hregs]⟩

end

section
/-! PROOFS. Engine P's tag decoder (41_tag_decoder.md R250 to R268): what each tag row does once the tag is read, the tags
that are always fatal, as rows and inside a service, and the tag bits that no decode reads. -/

namespace Sys2Proof.Machine

variable {c : PChan} {s : State} {fam : TagFamily} {g : Quad} {r : TagResult}

/-! ### The end of a decode, by its sub-step -/

/-- A tag row of an engine that is not halted ends as its decode does (R290, R403). -/
theorem runTagP_running (hf : s.engP.fault = none) (fam : TagFamily) (c : PChan) (g : Quad) (res : Option TagResult) :
    runTagP fam c g res s = settle .P c.val s (commitTagP fam c g res s) :=
  if_neg (by rw [halted_P, hf]; decide)

/-- A tag row whose decode is done: the decode's end is its own, and no memory is written (R290, R296). -/
theorem runTagP_ends {res : Option TagResult} {x : PChannel} {fin : Bool} {calls : List Event}
    (hf : s.engP.fault = none)
    (hsub : ∃ u, commitTagP fam c g res s = .done u ∧ EndsP c x fin calls s (u.respond (.progress c.val)) ∧
      u.memP = s.memP ∧ u.spr = s.spr) :
    EndsP c x fin calls s (runTagP fam c g res s) ∧
      (∀ a, (runTagP fam c g res s).memP.readByte a = s.memP.readByte a) ∧
      ∀ a, (runTagP fam c g res s).spr.readByte a = s.spr.readByte a := by
  obtain ⟨u, hu, hends, hmem, hspr⟩ := hsub
  have hrun : runTagP fam c g res s = u.respond (.progress c.val) := by rw [runTagP_running hf, hu, settle]
  rw [hrun, State.memP_respond, State.spr_respond, hmem, hspr]
  exact ⟨hends, fun _ => rfl, fun _ => rfl⟩

/-- A decode that forwards nothing, from the state the tag was read in (R252, R296, R298). -/
theorem commitTagP_ends (hplain : (fam = .source && pTte (s.pch c).chcr) = false) :
    ∃ u, commitTagP fam c g (some r) s = .done u ∧
      EndsP c ((s.pch c).decoded (tagCache g) r.madr r.tadr r.qwc r.ended) (r.qwc == 0 && r.ended) [] s
        (u.respond (.progress c.val)) ∧
      u.memP = s.memP ∧ u.spr = s.spr := by
  rw [commitTagP_plain hplain]
  exact ((CallsP.refl c s).writeDecoded g r).endDecode rfl

/-- A decode whose payload the peer takes: the one call of `PeerPushTag`, in which the peer may set its request flag
(R112, R297). -/
theorem commitTagP_ends_forward (htte : pTte (s.pch c).chcr = true) (hfwd : s.cfg.tteFwd[c] = true)
    (ha : (answerP s c).accepts = true) :
    ∃ u, commitTagP .source c g (some r) s = .done u ∧
      EndsP c
        { (s.pch c).decoded (tagCache g) r.madr r.tadr r.qwc r.ended with
          drq := (answerP s c).request.getD (s.pch c).drq }
        (r.qwc == 0 && r.ended) [.pushTagP c (g.extractLsb' 64 64) true] s (u.respond (.progress c.val)) ∧
      u.memP = s.memP ∧ u.spr = s.spr := by
  have hcalls := ((CallsP.refl c s).writeDecoded g r).afterCall (.pushTagP c (g.extractLsb' 64 64) true)
  rw [answerP_writeDecodedP] at hcalls
  obtain ⟨u, hu, hends, hmem, hspr⟩ := hcalls.endDecode rfl
  rw [commitTagP_forward htte hfwd ha]
  exact ⟨u, hu, hends, hmem.trans (memP_afterCallP _ _ _), hspr.trans (spr_afterCallP _ _ _)⟩

/-! ### The modelled rows -/

section Rows

variable {i : Instr} {t : PTag} {id : BitVec 3}

/-- A row of the source family decodes to what its decode function gives, whether its payload is forwarded or not. -/
theorem sourceDecodes_of_row (row : State → TagResult)
    (hrun : ∀ s, exec i s = .next (runTagP .source c (packPTag id t) (some (row s)) s))
    (hqwc : ∀ s, (row s).qwc = t.qwc) :
    SourceDecodes i c t id (fun s => (row s).madr) (fun s => (row s).tadr) (fun s => (row s).ended) := by
  intro s hf hforward
  refine ⟨_, hrun s, ?_⟩
  rw [← tagCache_pack, ← payload_pack id t, ← hqwc s]
  cases htte : (s.pch c).chcr.getLsbD 6 with
  | false => exact runTagP_ends hf (commitTagP_ends (by rw [pTte, htte, Bool.and_false]))
  | true =>
    obtain ⟨hfwd, ha⟩ := hforward htte
    exact runTagP_ends hf (commitTagP_ends_forward htte hfwd ha)

/-- A row of the destination family, whose decode function keeps TADR, decodes to what that function gives. -/
theorem destinationDecodes_of_row (row : State → TagResult)
    (hrun : ∀ s, exec i s = .next (runTagP .destination c (packPTag id t) (some (row s)) s))
    (hmadr : ∀ s, (row s).madr = t.addr) (htadr : ∀ s, (row s).tadr = (s.pch c).tadr)
    (hqwc : ∀ s, (row s).qwc = t.qwc) : DestinationDecodes i c t id fun s => (row s).ended := by
  intro s hf
  refine ⟨_, hrun s, ?_⟩
  rw [← tagCache_pack, ← hmadr s, ← htadr s, ← hqwc s]
  exact runTagP_ends hf (commitTagP_ends rfl)

end Rows

/-- The bytes of a segment: sixteen to the quadword (R255). -/
theorem segmentBytes_eq (n : Word) : n <<< 4 = 16 * n := by
  rw [BitVec.shiftLeft_eq_mul_twoPow, BitVec.mul_comm]
  rfl

/-! ### The tags that are always fatal -/

/-- A row of no variant takes its fatal error in the state it runs in (R259, R260, R267, R401). -/
theorem runTagP_unmodelled (hf : s.engP.fault = none) (id : BitVec 3) (t : PTag) :
    runTagP fam c (packPTag id t) none s =
      s.faultedBy .P (serviceFault .P .unmodelledTag c.val (some (.tag (tagLow t id))) .tagDecode) := by
  rw [runTagP_running hf, commitTagP, settle, takeFatal_P, unmodelledTag, tagLow_pack]
  rfl

/-- CALL and RET decode to nothing (R259, R260). -/
theorem decodeTag_source_none (h : tagId g = 5 ∨ tagId g = 6) (tadr0 : Word) (tie : Bool) :
    decodeTag .source tadr0 tie g = none := by
  unfold decodeTag
  rcases h with h | h <;> rw [h] <;> rfl

/-- The destination IDs 2 to 6 decode to nothing (R267). -/
theorem decodeTag_destination_none (h2 : 2 ≤ (tagId g).toNat) (h6 : (tagId g).toNat ≤ 6) (tadr0 : Word)
    (tie : Bool) : decodeTag .destination tadr0 tie g = none := by
  have hid : ∀ n : Fin 8, 2 ≤ n.val → n.val ≤ 6 → n = 2 ∨ n = 3 ∨ n = 4 ∨ n = 5 ∨ n = 6 := by decide
  unfold decodeTag
  rcases hid (tagId g).toFin h2 h6 with h | h | h | h | h <;> rw [h]

/-- A service that reads a tag of no variant takes UNMODELLED_TAG: only the calls that read the tag were made, and the
engine is as it was (R18, R250, R296, R404). -/
theorem ServesP.unmodelledTagFatal {calls : List Event} (hs : ServesP s c)
    (hdecode : serviceChannelP c s = decodeStepP c s) (hfetch : fetchTagP s c = some g)
    (hnone : ∀ tadr0 tie, decodeTag (familyP s c) tadr0 tie g = none)
    (hlog : (afterFetchTagP c s).log = s.log ++ calls) : UnmodelledTagFatal s c g calls := by
  have hsub : serviceChannelP c s = .fatal (unmodelledTag c g) (afterFetchTagP c s) := by
    simp only [hdecode, decodeStepP, hfetch, hnone, commitTagP]
  obtain ⟨x, calls', hcalls, -, hmem, hspr, -⟩ := serviceChannelP_fatal hsub
  have hexec : exec .serviceP s = .next (takeFatal .P s (afterFetchTagP c s) (unmodelledTag c g)) := by
    rw [exec_serviceP, execServiceP, hs.run, hsub, settle]
  exact ⟨_, _, hexec, rfl, rfl, hcalls.engS, rfl, hlog, fun a => by rw [takeFatal_P, hmem],
    fun a => by rw [takeFatal_P, hspr]⟩

/-- The tag that a channel fed by memory reads (R296). -/
theorem fetchTagP_memory (hp : s.cfg.tagFromPeerP[c] = false) :
    fetchTagP s c = some (s.memP.readQuad (busAddrP (s.pch c).tadr).toNat) ∧
      afterFetchTagP c s = s.record (.memReadP (busAddrP (s.pch c).tadr)) ∧ familyP s c = .source := by
  simp only [fetchTagP, afterFetchTagP, familyP, hp]
  exact ⟨rfl, rfl, rfl⟩

/-- The tag that a channel fed by the scratchpad port reads (R302; of channel 9, log 26). -/
theorem fetchTagP_spr (hp : s.cfg.tagFromPeerP[c] = true) (hc : isSprChan c = true) :
    fetchTagP s c = some (s.spr.readQuad (sprOffset (s.pch c).sadr).toNat) ∧
      afterFetchTagP c s = afterSprGet c s ∧ familyP s c = .destination := by
  simp only [fetchTagP, afterFetchTagP, familyP, unitFromPeerP, afterUnitFromPeerP, hp, hc]
  exact ⟨rfl, rfl, rfl⟩

/-- The tag that a channel fed by any other peer reads, if the peer gives one (R296). -/
theorem fetchTagP_peer (hp : s.cfg.tagFromPeerP[c] = true) (hc : isSprChan c = false)
    (ha : (answerP s c).unit = some g) :
    fetchTagP s c = some g ∧ afterFetchTagP c s = afterCallP c (.popP c (some g)) s ∧
      familyP s c = .destination := by
  simp only [fetchTagP, afterFetchTagP, familyP, unitFromPeerP, afterUnitFromPeerP, hp, hc, afterPopP, ha]
  exact ⟨rfl, rfl, rfl⟩

/-! ### The bits a decode reads -/

/-- A decode reads the ID, the count, IRQ and ADDR of a tag, and nothing else of it (R250, R268). -/
theorem decodeTag_congr {t u : Quad} (hid : tagId t = tagId u) (hqwc : (unpackPTag t).qwc = (unpackPTag u).qwc)
    (hirq : (unpackPTag t).irq = (unpackPTag u).irq) (haddr : (unpackPTag t).addr = (unpackPTag u).addr)
    (fam : TagFamily) (tadr0 : Word) (tie : Bool) : decodeTag fam tadr0 tie t = decodeTag fam tadr0 tie u := by
  simp only [decodeTag, srcRefe, srcCnt, srcNext, srcRef, srcRefs, srcEnd, dstCnts, dstCnt, dstEnd, hid, hqwc, hirq,
    haddr]

/-- Words that agree on the bits of a field have the same field. -/
theorem extractLsb'_eq_of_getLsbD {w : Nat} {x y : BitVec w} {k n : Nat}
    (h : ∀ i, k ≤ i → i < k + n → x.getLsbD i = y.getLsbD i) : x.extractLsb' k n = y.extractLsb' k n := by
  apply BitVec.eq_of_getLsbD_eq
  intro i hi
  rw [BitVec.getLsbD_extractLsb', BitVec.getLsbD_extractLsb', h (k + i) (by omega) (by omega)]

end Sys2Proof.Machine

open Sys2Proof Sys2Proof.Machine

/-- Settles O43: each row is the end of a decode with its own decode function (`sourceDecodes_of_row`). -/
theorem sourceTagsDecode : Obligations.SourceTagsDecode := by
  intro c t
  have hcnt : SourceDecodes (.pSrcTagCnt c t) c t 1 (fun s => (s.pch c).tadr + 16)
      (fun s => (s.pch c).tadr + 16 + (t.qwc.setWidth 32 <<< 4)) (fun s => t.irq && (s.pch c).chcr.getLsbD 7) :=
    sourceDecodes_of_row (fun s => srcCnt (s.pch c).tadr (pTie (s.pch c).chcr) t) (fun _ => rfl) fun _ => rfl
  rw [segmentBytes_eq] at hcnt
  exact ⟨
    sourceDecodes_of_row (fun s => srcRefe (s.pch c).tadr (pTie (s.pch c).chcr) t) (fun _ => rfl) fun _ => rfl,
    hcnt,
    sourceDecodes_of_row (fun s => srcNext (s.pch c).tadr (pTie (s.pch c).chcr) t) (fun _ => rfl) fun _ => rfl,
    sourceDecodes_of_row (fun s => srcRef (s.pch c).tadr (pTie (s.pch c).chcr) t) (fun _ => rfl) fun _ => rfl,
    sourceDecodes_of_row (fun s => srcRefs (s.pch c).tadr (pTie (s.pch c).chcr) t) (fun _ => rfl) fun _ => rfl,
    sourceDecodes_of_row (fun s => srcEnd (s.pch c).tadr (pTie (s.pch c).chcr) t) (fun _ => rfl) fun _ => rfl⟩

/-- Settles O44: each row is the end of a decode that forwards nothing (`destinationDecodes_of_row`). -/
theorem destinationTagsDecode : Obligations.DestinationTagsDecode := by
  intro c t
  exact ⟨
    destinationDecodes_of_row (fun s => dstCnts (s.pch c).tadr (pTie (s.pch c).chcr) t) (fun _ => rfl) (fun _ => rfl)
      (fun _ => rfl) fun _ => rfl,
    destinationDecodes_of_row (fun s => dstCnt (s.pch c).tadr (pTie (s.pch c).chcr) t) (fun _ => rfl) (fun _ => rfl)
      (fun _ => rfl) fun _ => rfl,
    destinationDecodes_of_row (fun s => dstEnd (s.pch c).tadr (pTie (s.pch c).chcr) t) (fun _ => rfl) (fun _ => rfl)
      (fun _ => rfl) fun _ => rfl⟩

/-- Settles O45: each row runs a tag that decodes to nothing (`runTagP_unmodelled`). -/
theorem unmodelledTagsAreFatal : Obligations.UnmodelledTagsAreFatal := by
  intro s c t hf
  have hfatal : ∀ (fam : TagFamily) (id : BitVec 3), Host.Outcome.next (runTagP fam c (packPTag id t) none s) =
      (.next (s.faultedBy .P (serviceFault .P .unmodelledTag c.val (some (.tag (tagLow t id))) .tagDecode)) :
        Host.Outcome State Fault Refusal) := fun _ id => congrArg _ (runTagP_unmodelled hf id t)
  exact ⟨hfatal .source 5, hfatal .source 6, hfatal .destination 2, hfatal .destination 3, hfatal .destination 4,
    hfatal .destination 5, hfatal .destination 6⟩

/-- Settles O47: the ID, the count, IRQ and ADDR lie outside the ignored bits, and a decode reads no more. -/
theorem ignoredTagBits : Obligations.IgnoredTagBits := by
  intro fam tadr0 tie t u h
  have hid : tagId t = tagId u := extractLsb'_eq_of_getLsbD fun i h28 h31 => h i (by omega)
  have hqwc : (unpackPTag t).qwc = (unpackPTag u).qwc := extractLsb'_eq_of_getLsbD fun i _ h16 => h i (by omega)
  have hirq : (unpackPTag t).irq = (unpackPTag u).irq := h 31 (by omega)
  have haddr : (unpackPTag t).addr = (unpackPTag u).addr := extractLsb'_eq_of_getLsbD fun i h32 h64 => h i (by omega)
  exact ⟨hid, decodeTag_congr hid hqwc hirq haddr fam tadr0 tie⟩

/-- Settles O60, by where the tag comes from: memory, the scratchpad port, another peer. -/
theorem servicesOfUnmodelledTagsAreFatal : Obligations.ServicesOfUnmodelledTagsAreFatal := by
  intro s c t hs hm hq hn
  have hdecode := serviceChannelP_decode hm hq hn
  refine ⟨fun hp ht hid => ?_, fun hp hc ht h2 h6 => ?_, fun hp h8 h9 ha h2 h6 => ?_⟩
  · subst ht
    obtain ⟨hfetch, hafter, hfam⟩ := fetchTagP_memory hp
    exact hs.unmodelledTagFatal hdecode hfetch (by rw [hfam]; exact decodeTag_source_none hid) (by rw [hafter]; rfl)
  · subst ht
    obtain ⟨hfetch, hafter, hfam⟩ := fetchTagP_spr hp ((isSprChan_iff c).2 hc)
    exact hs.unmodelledTagFatal hdecode hfetch (by rw [hfam]; exact decodeTag_destination_none h2 h6)
      (by rw [hafter]; rfl)
  · obtain ⟨hfetch, hafter, hfam⟩ := fetchTagP_peer hp (isSprChan_of_ne h8 h9) ha
    exact hs.unmodelledTagFatal hdecode hfetch (by rw [hfam]; exact decodeTag_destination_none h2 h6)
      (by rw [hafter]; exact ((CallsP.refl c s).afterCall _).log)

end

section
/-! PROOFS. Services of engine P (42_primary_engine.md R290 to R304, R310): the services that find nothing to do, the units
a service moves to a peer and how a Normal transfer goes through its units, and the tag that a service reads and runs. -/

namespace Sys2Proof.Machine

variable {c : PChan} {s t u : State}

/-! ### Services that move nothing -/

/-- A service of engine P that may not or cannot take a channel is IDLE (R290, R291). -/
theorem runServiceP_idle (hf : s.engP.fault = none)
    (h : s.engP.dCtrl.getLsbD 0 = false ∨ ∀ c, ¬((s.pch c).chcr.getLsbD 8 = true ∧ (s.pch c).drq = true)) :
    runServiceP s = s.respond .idle := by
  rcases runServiceP_cases s with ⟨-, hfault⟩ | hidle | ⟨c, hs, -⟩
  · rw [hf] at hfault; cases hfault
  · exact hidle
  · rcases h with hoff | hnone
    · exact absurd (hoff.symm.trans hs.enable) (by decide)
    · exact absurd ⟨hs.start, hs.request⟩ (hnone c)

/-- The same for engine S (R340, R341). -/
theorem runServiceS_idle (hf : s.engS.fault = none)
    (h : s.engS.dmacen.getLsbD 0 = false ∨
      ∀ c, ¬((s.sch c).chcr.getLsbD 24 = true ∧ (s.sch c).drq = true ∧ channelEnable s c = true)) :
    runServiceS s = s.respond .idle := by
  rcases runServiceS_cases s with ⟨-, hfault⟩ | hidle | ⟨c, hs, -⟩
  · rw [hf] at hfault; cases hfault
  · exact hidle
  · rcases h with hoff | hnone
    · exact absurd (hoff.symm.trans hs.enable) (by decide)
    · exact absurd ⟨hs.start, hs.request, hs.allowed⟩ (hnone c)

/-- A channel with nothing left to move, in Normal mode or at the end of its chain, completes at once (R293, R294). -/
theorem serviceChannelP_complete (hq : (s.pch c).qwc = 0)
    (hm : (s.pch c).chcr.extractLsb' 2 2 = 0 ∨
      ((s.pch c).chcr.extractLsb' 2 2 = 1 ∧ (s.pch c).hasTag = true ∧ (s.pch c).chainEnded = true)) :
    serviceChannelP c s = .done (completeP c s) := by
  unfold serviceChannelP
  rcases hm with h | ⟨h, htag, hend⟩
  · rw [(pMode_normal _).2 h]
    exact if_pos hq
  · rw [(pMode_chain _).2 h]
    show chainStepP c s = _
    rw [chainStepP, if_neg (not_not.2 hq), if_pos (by rw [htag, hend]; rfl)]

/-! ### A unit moved to the peer -/

/-- A call uses up the next answer of its channel's script, if there is one (R112). -/
theorem peersP_afterCallP_self (c : PChan) (e : Event) (s : State) :
    (afterCallP c e s).peersP[c] = s.peersP[c].tail := by
  rw [afterCallP_eq]
  rcases dropAnswerP_cases c s with ⟨r, rest, hscript, hdrop⟩ | ⟨hscript, hdrop⟩
  · simp [hdrop, hscript]
  · simp [hdrop, hscript]

theorem peersP_completeP (c : PChan) (s : State) : (completeP c s).peersP = s.peersP := by
  rw [completeP, reevalP_eq]
  rfl

theorem peersP_endOfUnitP (c : PChan) (s : State) : (endOfUnitP c s).peersP = s.peersP := by
  unfold endOfUnitP
  dsimp only
  split
  · split
    · exact peersP_completeP _ _
    · rfl
  · rfl

/-- A service that moves a quadword to a peer that takes it (R295, R300): the memories are as before, and the peer's script
is moved past its answer. -/
theorem ServesP.movesToPeer (hs : ServesP s c)
    (hm : (s.pch c).chcr.extractLsb' 2 2 = 0 ∨ (s.pch c).chcr.extractLsb' 2 2 = 1) (hq : (s.pch c).qwc ≠ 0)
    (hd : (s.pch c).chcr.getLsbD 0 = true) (hc : isSprChan c = false) (ha : (answerP s c).accepts = true) :
    ∃ t, exec .serviceP s = .next t ∧
      EndsP c { (s.pch c).unitMoved with drq := (answerP s c).request.getD (s.pch c).drq } (s.pch c).unitCompletes
        [.memReadP (busAddrP (s.pch c).madr), .pushP c (s.memP.readQuad (busAddrP (s.pch c).madr).toNat) true] s t ∧
      t.memP = s.memP ∧ t.spr = s.spr ∧ t.peersP[c] = s.peersP[c].tail := by
  have hsub := (serviceChannelP_toPeer hm hq hd).trans (transferToPeerP_done hc ha)
  have hends := (((CallsP.refl c s).record (.memReadP (busAddrP (s.pch c).madr))).afterCall
    (.pushP c (s.memP.readQuad (busAddrP (s.pch c).madr).toNat) true)).endOfUnit
  refine ⟨_, hs.done hsub, hends, ?_, ?_, ?_⟩
  · rw [State.memP_respond, memP_endOfUnitP, memP_afterCallP, State.memP_record]
  · rw [State.spr_respond, spr_endOfUnitP, spr_afterCallP, State.spr_record]
  · rw [State.peersP_respond, peersP_endOfUnitP, peersP_afterCallP_self, State.peersP_record]

/-! ### A Normal transfer, unit by unit -/

/-- Channel c is the one that services take, n quadwords before the end of a Normal transfer to a peer that takes each of
them and asks for nothing. -/
structure SendsNormal (c : PChan) (n : Nat) (s : State) : Prop where
  serves : ServesP s c
  mode : (s.pch c).chcr.extractLsb' 2 2 = 0
  dir : (s.pch c).chcr.getLsbD 0 = true
  qwc : (s.pch c).qwc.toNat = n
  peer : s.peersP[c] = List.replicate n ⟨true, none, none⟩

/-- What the peer answers is the head of its script (R112). -/
theorem answerP_scripted {r : PeerReply Quad} {rest : List (PeerReply Quad)} (hc : isSprChan c = false)
    (h : s.peersP[c] = r :: rest) : answerP s c = r := by
  rw [answerP_peer hc, h]

theorem PChannel.unitMoved_qwc {x : PChannel} {n : Nat} (h : x.qwc.toNat = n + 1) : x.unitMoved.qwc.toNat = n := by
  have hq : x.unitMoved.qwc = x.qwc - 1 := rfl
  rw [hq]
  bv_omega

/-- In Normal mode a unit completes the channel if it is the last (R300). -/
theorem PChannel.unitCompletes_normal {x : PChannel} {n : Nat} (hm : x.chcr.extractLsb' 2 2 = 0)
    (h : x.qwc.toNat = n + 1) : x.unitCompletes = decide (n = 0) := by
  have hlast : x.qwc = 1 ↔ n = 0 := by bv_omega
  rw [unitCompletes, hm, beq_self_eq_true, Bool.true_or, Bool.and_true, Bool.eq_iff_iff, beq_iff_eq, decide_eq_true_iff]
  exact hlast

/-- A channel that has not been completed, still started and requesting, is taken again (R290, R291). -/
theorem EndsP.serves {x : PChannel} {calls : List Event} (h : EndsP c x false calls s t) (hs : ServesP s c)
    (hstart : x.chcr.getLsbD 8 = true) (hreq : x.drq = true) : ServesP t c where
  sound := h.fault.trans hs.sound
  enable := by rw [h.dCtrl]; exact hs.enable
  start := by rw [h.channel]; exact hstart
  request := by rw [h.channel]; exact hreq
  first d hd := by rw [h.others d (ne_of_lt hd)]; exact hs.first d hd

/-- What a sub-step adds to the quadwords that a peer has received: those of its calls (a raise is no call of a peer). -/
theorem EndsP.received {x : PChannel} {fin : Bool} {calls : List Event} (h : EndsP c x fin calls s t) (d : PChan) :
    t.log.filterMap (receivedP d) = s.log.filterMap (receivedP d) ++ calls.filterMap (receivedP d) := by
  have hraise : ∀ b : Bool, (if b then [Event.intcRaise .P] else []).filterMap (receivedP d) = [] := by
    intro b; cases b <;> rfl
  rw [h.log, List.filterMap_append, List.filterMap_append, hraise, List.append_nil]

/-- Of the calls that move a unit to its peer, the peer receives the quadword. -/
theorem received_unitCalls (c : PChan) (a : Word) (q : Quad) :
    [Event.memReadP a, .pushP c q true].filterMap (receivedP c) = [q] := by
  have hread : receivedP c (.memReadP a) = none := rfl
  have hpush : receivedP c (.pushP c q true) = some q := if_pos rfl
  rw [List.filterMap_cons_none hread, List.filterMap_cons_some hpush, List.filterMap_nil]

/-- Completion clears STR, and nothing else does (R304). -/
theorem EndsP.busy {x : PChannel} {fin : Bool} {calls : List Event} (h : EndsP c x fin calls s t)
    (hstart : x.chcr.getLsbD 8 = true) : (t.pch c).chcr.getLsbD 8 = !fin := by
  rw [h.channel]
  cases fin with
  | false => exact hstart
  | true =>
    show (x.chcr &&& 0xFFFFFEFF).getLsbD 8 = false
    rw [BitVec.getLsbD_and]
    exact Bool.and_false _

/-- The address and the count of a channel are what the sub-step left: completion does not write them (R304). -/
theorem EndsP.madr_qwc {x : PChannel} {fin : Bool} {calls : List Event} (h : EndsP c x fin calls s t) :
    (t.pch c).madr = x.madr ∧ (t.pch c).qwc = x.qwc := by
  rw [h.channel]
  cases fin <;> exact ⟨rfl, rfl⟩

/-- One service of a Normal transfer: the next quadword goes to the peer, and the transfer goes on unless it was the last
(R293, R300, R304). -/
theorem SendsNormal.step {n : Nat} (h : SendsNormal c (n + 1) s) (hc : isSprChan c = false) :
    ∃ t, exec .serviceP s = .next t ∧
      EndsP c (s.pch c).unitMoved (decide (n = 0))
        [.memReadP (busAddrP (s.pch c).madr), .pushP c (s.memP.readQuad (busAddrP (s.pch c).madr).toNat) true] s t ∧
      t.memP = s.memP ∧ (n ≠ 0 → SendsNormal c n t) := by
  have hans : answerP s c = ⟨true, none, none⟩ := answerP_scripted hc h.peer
  have hq : (s.pch c).qwc ≠ 0 := by
    intro h0
    have hqwc := h.qwc
    rw [h0] at hqwc
    cases hqwc
  obtain ⟨t, hexec, hends, hmem, -, hpeer⟩ := h.serves.movesToPeer (.inl h.mode) hq h.dir hc (by rw [hans])
  rw [hans, PChannel.unitCompletes_normal h.mode h.qwc] at hends
  refine ⟨t, hexec, hends, hmem, fun hn => ?_⟩
  rw [decide_eq_false hn] at hends
  have hch : t.pch c = (s.pch c).unitMoved := hends.channel
  refine ⟨hends.serves h.serves h.serves.start h.serves.request, ?_, ?_, ?_, ?_⟩
  · rw [hch]; exact h.mode
  · rw [hch]; exact h.dir
  · rw [hch]; exact PChannel.unitMoved_qwc h.qwc
  · rw [hpeer, h.peer]; rfl

/-- What k services have made of a Normal transfer of n quadwords that began in s (R293, R300, R304, R313). -/
structure Delivered (c : PChan) (s : State) (n k : Nat) (t : State) : Prop where
  madr : (t.pch c).madr = (s.pch c).madr + BitVec.ofNat 32 (16 * k)
  qwc : (t.pch c).qwc.toNat = n - k
  busy : (t.pch c).chcr.getLsbD 8 = decide (k < n)
  cis : t.engP.cis.getLsbD c.val = (s.engP.cis.getLsbD c.val || decide (k = n))
  memP : t.memP = s.memP
  received : t.log.filterMap (receivedP c) = s.log.filterMap (receivedP c) ++
    (List.range k).map fun j => s.memP.readQuad (busAddrP ((s.pch c).madr + BitVec.ofNat 32 (16 * j))).toNat
  /-- The quadwords left are still to be sent. -/
  more : k < n → SendsNormal c (n - k) t

theorem Delivered.zero {n : Nat} (h : SendsNormal c n s) (hn : 0 < n) : Delivered c s n 0 s where
  madr := (BitVec.add_zero _).symm
  qwc := h.qwc
  busy := h.serves.start.trans (decide_eq_true hn).symm
  cis := by rw [decide_eq_false (Nat.ne_of_lt hn), Bool.or_false]
  memP := rfl
  received := (List.append_nil _).symm
  more _ := h

/-- The service after k others moves quadword k. -/
theorem Delivered.succ {n k : Nat} (h : Delivered c s n k t) (hc : isSprChan c = false) (hk : k < n) :
    ∃ u, exec .serviceP t = .next u ∧ Delivered c s n (k + 1) u := by
  obtain ⟨m, rfl⟩ : ∃ m, n = k + (m + 1) := ⟨n - k - 1, by omega⟩
  have hsends : SendsNormal c (m + 1) t := by simpa using h.more hk
  obtain ⟨u, hexec, hends, hmem, hmore⟩ := hsends.step hc
  obtain ⟨hmadr, hqwc⟩ := hends.madr_qwc
  have hcount : k + (m + 1) - (k + 1) = m := by omega
  refine ⟨u, hexec, ?_, ?_, ?_, ?_, hmem.trans h.memP, ?_, fun hlt => ?_⟩
  · calc
      (u.pch c).madr = (s.pch c).madr + BitVec.ofNat 32 (16 * k) + 16 := by rw [hmadr, ← h.madr]; rfl
      _ = (s.pch c).madr + BitVec.ofNat 32 (16 * (k + 1)) := by rw [BitVec.add_assoc, Nat.mul_succ, BitVec.ofNat_add]; rfl
  · rw [hqwc, hcount]
    exact PChannel.unitMoved_qwc hsends.qwc
  · rw [hends.busy hsends.serves.start, Bool.eq_iff_iff, Bool.not_eq_true', decide_eq_false_iff_not, decide_eq_true_iff]
    omega
  · have hlast : (decide (m = 0) && c.val == c.val) = decide (k + 1 = k + (m + 1)) := by
      rw [beq_self_eq_true, Bool.and_true, Bool.eq_iff_iff, decide_eq_true_iff, decide_eq_true_iff]
      omega
    rw [hends.cis, h.cis, decide_eq_false (by omega : k ≠ k + (m + 1)), Bool.or_false, hlast]
  · rw [hends.received, received_unitCalls, h.received, h.memP, h.madr, List.append_assoc, List.range_succ,
      List.map_append]
    rfl
  · rw [hcount]
    exact hmore (by omega)

/-- One more service after k of them. -/
theorem servicesP_succ {k : Nat} : ∀ {s : State}, servicesP k s = some t → exec .serviceP t = .next u →
    servicesP (k + 1) s = some u := by
  induction k with
  | zero =>
    intro s h hexec
    obtain rfl : s = t := Option.some.inj h
    rw [servicesP, hexec]
    rfl
  | succ k ih =>
    intro s h hexec
    rw [servicesP] at h ⊢
    cases hs : exec .serviceP s with
    | next v =>
      rw [hs] at h
      exact ih h hexec
    | fault _ => rw [hs] at h; cases h
    | refused _ => rw [hs] at h; cases h

/-- A Normal transfer goes on, service by service, to its end. -/
theorem SendsNormal.delivers {n : Nat} (h : SendsNormal c n s) (hn : 0 < n) (hc : isSprChan c = false) :
    ∀ k, k ≤ n → ∃ t, servicesP k s = some t ∧ Delivered c s n k t := by
  intro k
  induction k with
  | zero => exact fun _ => ⟨s, rfl, .zero h hn⟩
  | succ k ih =>
    intro hk
    obtain ⟨t, hrun, hdel⟩ := ih (by omega)
    obtain ⟨u, hexec, hdel'⟩ := hdel.succ hc hk
    exact ⟨u, servicesP_succ hrun hexec, hdel'⟩

/-! ### Tags, as rows and inside a service -/

/-- Every tag row, said once: the rest of a decode whose tag decodes as `decodeTag` says (R250, R296). -/
theorem exec_decodePTag (fam : TagFamily) (c : PChan) (g : Quad) (s : State) :
    exec (decodePTag fam c g) s =
      .next (runTagP fam c g (decodeTag fam (s.pch c).tadr (pTie (s.pch c).chcr) g) s) := by
  obtain ⟨id, t, rfl⟩ : ∃ id t, g = packPTag id t := ⟨_, _, (pack_unpack g).symm⟩
  simp only [decodePTag_pack, decodeTag, pack_tagId, unpack_pack]
  obtain ⟨i, rfl⟩ : ∃ i : Fin 8, id = BitVec.ofFin i := ⟨id.toFin, rfl⟩
  cases fam <;> fin_cases i <;> rfl

/-- A source tag of a modelled variant decodes (R254 to R258, R261). -/
theorem decodeTag_source_some {g : Quad} (h5 : tagId g ≠ 5) (h6 : tagId g ≠ 6) (tadr0 : Word) (tie : Bool) :
    ∃ r, decodeTag .source tadr0 tie g = some r := by
  have hid : ∀ i : BitVec 3, i ≠ 5 → i ≠ 6 → i = 0 ∨ i = 1 ∨ i = 2 ∨ i = 3 ∨ i = 4 ∨ i = 7 := by decide
  unfold decodeTag
  rcases hid (tagId g) h5 h6 with h | h | h | h | h | h <;> rw [h] <;> exact ⟨_, rfl⟩

/-- A destination tag of a modelled variant decodes (R264 to R266). -/
theorem decodeTag_destination_some {g : Quad} (h : tagId g = 0 ∨ tagId g = 1 ∨ tagId g = 7) (tadr0 : Word)
    (tie : Bool) : ∃ r, decodeTag .destination tadr0 tie g = some r := by
  unfold decodeTag
  rcases h with h | h | h <;> rw [h] <;> exact ⟨_, rfl⟩

/-- The destination family forwards nothing, so that a decode of a modelled variant is done (R297). -/
theorem commitTagP_destination_done (c : PChan) (g : Quad) (r : TagResult) (s : State) :
    ∃ u, commitTagP .destination c g (some r) s = .done u := by
  rw [commitTagP_plain rfl]
  exact ⟨_, rfl⟩

/-- A service that reads a tag runs it in the state after the read, provided that a fatal error of the tag finds the engine
as the service did, or that there is none (R18, R294, R296). -/
theorem ServesP.runsTag {fam : TagFamily} {g : Quad} (hs : ServesP s c)
    (hdecode : serviceChannelP c s = decodeStepP c s) (hfetch : fetchTagP s c = some g)
    (hafter : afterFetchTagP c s = u) (hfam : familyP s c = fam) (hf : u.engP.fault = none)
    (hkept : u.engP = s.engP ∨
      ∃ v, commitTagP fam c g (decodeTag fam (u.pch c).tadr (pTie (u.pch c).chcr) g) u = .done v) :
    exec .serviceP s = exec (decodePTag fam c g) u := by
  rw [exec_serviceP, execServiceP, hs.run, hdecode, exec_decodePTag, runTagP_running hf]
  simp only [decodeStepP, hfetch, hafter, hfam]
  rcases hkept with hengP | ⟨v, hv⟩
  · cases commitTagP fam c g (decodeTag fam (u.pch c).tadr (pTie (u.pch c).chcr) g) u with
    | done v => rfl
    | fatal r v => rw [settle, settle, takeFatal_P, takeFatal_P, hengP]
  · rw [hv]
    rfl

/-- A service that reads a destination tag of a modelled variant runs it in the state after the read. -/
theorem ServesP.runsDestinationTag {x : PChannel} {calls : List Event} {g : Quad} (hs : ServesP s c)
    (hdecode : serviceChannelP c s = decodeStepP c s)
    (hfetch : fetchTagP s c = some g ∧ afterFetchTagP c s = u ∧ familyP s c = .destination)
    (hread : CallsP c x calls s u) (hid : tagId g = 0 ∨ tagId g = 1 ∨ tagId g = 7) :
    exec .serviceP s = exec (decodePTag .destination c g) u := by
  obtain ⟨htag, hafter, hfam⟩ := hfetch
  obtain ⟨r, hr⟩ := decodeTag_destination_some hid (u.pch c).tadr (pTie (u.pch c).chcr)
  refine hs.runsTag hdecode htag hafter hfam (hread.fault.trans hs.sound) (.inr ?_)
  rw [hr]
  exact commitTagP_destination_done c g r u

end Sys2Proof.Machine

open Sys2Proof Sys2Proof.Machine

/-- Settles O10, by where the tag comes from: a read of memory leaves the engine as it was, and a destination tag of a
modelled variant raises no fatal error. -/
theorem servicePRunsTheFetchedTag : Obligations.ServicePRunsTheFetchedTag := by
  intro s c hs hm hq hn
  have hdecode := serviceChannelP_decode hm hq hn
  refine ⟨fun hp => ?_, fun hp hc hid => ?_, fun t hp h8 h9 ha hid => ?_⟩
  · obtain ⟨hfetch, hafter, hfam⟩ := fetchTagP_memory hp
    exact hs.runsTag hdecode hfetch hafter hfam hs.sound (.inl rfl)
  · exact hs.runsDestinationTag hdecode (fetchTagP_spr hp ((isSprChan_iff c).2 hc)) (CallsP.refl c s).afterSprGet hid
  · rw [afterPopP, ha]
    exact hs.runsDestinationTag hdecode (fetchTagP_peer hp (isSprChan_of_ne h8 h9) ha) ((CallsP.refl c s).afterCall _) hid

/-- Settles O33: such a service finds no channel to take. -/
theorem idleServicesChangeNothing : Obligations.IdleServicesChangeNothing := fun _ =>
  ⟨fun hf h => congrArg _ (runServiceP_idle hf h), fun hf h => congrArg _ (runServiceS_idle hf h)⟩

/-- Settles O36: the sub-step is one bus read and one push, then the end of the unit. -/
theorem servicePMovesAQuadwordToThePeer : Obligations.ServicePMovesAQuadwordToThePeer := by
  intro s c hs hm hq hd h8 h9 ha
  obtain ⟨t, hexec, hends, hmem, hspr, -⟩ := hs.movesToPeer hm hq hd (isSprChan_of_ne h8 h9) ha
  exact ⟨t, hexec, hends, fun a => by rw [hmem], fun a => by rw [hspr]⟩

/-- Settles O41: the sub-step is the completion alone. -/
theorem emptyTransfersComplete : Obligations.EmptyTransfersComplete := by
  intro s c hs hq hm
  refine ⟨_, hs.done (serviceChannelP_complete hq hm), (CallsP.refl c s).complete, fun a => ?_, fun a => ?_⟩
  · rw [State.memP_respond, memP_completeP]
  · rw [State.spr_respond, spr_completeP]

/-- Settles O42, by induction on the number of services: `Delivered` says what k of them have done. -/
theorem normalTransferTakesQwcServices : Obligations.NormalTransferTakesQwcServices := by
  intro s c n hs hm hd h8 h9 hq hn hp k hk
  have hsends : SendsNormal c n s := ⟨hs, hm, hd, hq, hp⟩
  obtain ⟨t, hrun, h⟩ := hsends.delivers hn (isSprChan_of_ne h8 h9) k hk
  exact ⟨t, hrun, h.madr, h.qwc, h.busy, h.cis, h.memP, h.received⟩

/-- Settles O46: the tag decodes, and what it then does with its payload is fatal. -/
theorem refusedTagTransfersAreFatal : Obligations.RefusedTagTransfersAreFatal := by
  intro s c g hf htte h5 h6
  obtain ⟨r, hr⟩ := decodeTag_source_some h5 h6 (s.pch c).tadr (pTie (s.pch c).chcr)
  rw [exec_decodePTag, runTagP_running hf, hr]
  refine ⟨fun hfwd => ?_, fun hfwd ha => ?_⟩
  · rw [commitTagP_noForward htte hfwd]
    rfl
  · have hcalls := ((CallsP.refl c s).writeDecoded g r).afterCall (.pushTagP c (g.extractLsb' 64 64) false)
    rw [commitTagP_full htte hfwd ha, settle, takeFatal_P]
    refine ⟨_, _, rfl, rfl, rfl, rfl, hcalls.log, fun a => ?_, fun a => ?_⟩
    · rw [memP_afterCallP]
      rfl
    · rw [spr_afterCallP]
      rfl

/-- Settles O56: the row writes the flag of its channel; the value that the flag has leaves the channel as it is. -/
theorem setRequestWritesOneFlag : Obligations.SetRequestWritesOneFlag := by
  intro s ready
  refine ⟨fun c => ⟨rfl, fun h => ?_⟩, fun c => ⟨rfl, fun h => ?_⟩⟩
  · subst h
    exact congrArg (fun t => Host.Outcome.next (t.respond .done)) (State.setPch_pch s c)
  · subst h
    exact congrArg (fun t => Host.Outcome.next (t.respond .done)) (State.setSch_sch s c)

end

section
/-! PROOFS. Services of engine S (43_secondary_engine.md R340 to R357): the step a service takes by the mode of its
channel, the words and tags that a step moves, and the fatal errors it can take. -/

namespace Sys2Proof.Machine

variable {c : SChan} {s u : State}

/-! ### The step of a service, by the mode of its channel -/

/-- A channel with a modelled peer goes on to the check of its mode (R342). -/
theorem serviceChannelS_modelled (hp : s.cfg.peerPresentS[c] = true) : serviceChannelS c s = modeCheckS c s :=
  if_neg (by rw [hp]; decide)

/-- In Slice mode, not decrementing, it takes a slice step (R342, R343). -/
theorem serviceChannelS_slice (hp : s.cfg.peerPresentS[c] = true) (hmas : (s.sch c).chcr.getLsbD 1 = false)
    (hm : (s.sch c).chcr.extractLsb' 9 2 = 1) : serviceChannelS c s = sliceStepS c s := by
  rw [serviceChannelS_modelled hp, modeCheckS, if_neg (by rw [sMas, hmas]; decide), (sMode_slice _).2 hm]

/-- In Chain mode it takes a chain step (R342, R343). -/
theorem serviceChannelS_chain (hp : s.cfg.peerPresentS[c] = true) (hmas : (s.sch c).chcr.getLsbD 1 = false)
    (hm : (s.sch c).chcr.extractLsb' 9 2 = 3) : serviceChannelS c s = chainStepS c s := by
  rw [serviceChannelS_modelled hp, modeCheckS, if_neg (by rw [sMas, hmas]; decide), (sMode_chain _).2 hm]

/-- A channel with no modelled peer makes no call (R342). -/
theorem serviceChannelS_unmodelledChannel (hp : s.cfg.peerPresentS[c] = false) :
    serviceChannelS c s = .fatal (unmodelledChannel c (s.sch c).chcr) s :=
  if_pos (by rw [hp]; rfl)

/-- A decrementing channel, or one in Burst or Linked-list mode, makes no call (R343). -/
theorem serviceChannelS_unmodelledMode (hp : s.cfg.peerPresentS[c] = true)
    (h : (s.sch c).chcr.getLsbD 1 = true ∨ (s.sch c).chcr.extractLsb' 9 2 = 0 ∨
      (s.sch c).chcr.extractLsb' 9 2 = 2) :
    serviceChannelS c s = .fatal (unmodelledModeS c (s.sch c).chcr) s := by
  rw [serviceChannelS_modelled hp, modeCheckS]
  rcases h with hmas | hburst | hlinked
  · exact if_pos hmas
  · rw [(sMode_burst _).2 hburst, ite_self]
  · rw [(sMode_linkedList _).2 hlinked, ite_self]

/-- A service of a chain that goes on, with nothing left to move, reads a tag (R348). -/
theorem serviceChannelS_tag (hp : s.cfg.peerPresentS[c] = true) (hmas : (s.sch c).chcr.getLsbD 1 = false)
    (hm : (s.sch c).chcr.extractLsb' 9 2 = 3) (hr : (s.sch c).remaining = 0)
    (hn : ¬((s.sch c).hasTag = true ∧ (s.sch c).chainEnded = true)) : serviceChannelS c s = tagStepS c s := by
  rw [serviceChannelS_chain hp hmas hm, chainStepS, if_neg (not_not.2 hr), if_neg (by rwa [Bool.and_eq_true])]

/-- A service of a slice of no words, or of a chain that has ended, is the completion alone (R344, R348). -/
theorem serviceChannelS_complete (hp : s.cfg.peerPresentS[c] = true) (hmas : (s.sch c).chcr.getLsbD 1 = false)
    (hr : (s.sch c).started.remaining = 0)
    (hm : (s.sch c).chcr.extractLsb' 9 2 = 1 ∨
      ((s.sch c).chcr.extractLsb' 9 2 = 3 ∧ (s.sch c).hasTag = true ∧ (s.sch c).chainEnded = true)) :
    serviceChannelS c s = .done (completeS c (s.setSch c (s.sch c).started)) := by
  rcases hm with hslice | ⟨hchain, htag, hend⟩
  · rw [serviceChannelS_slice hp hmas hslice]
    simp only [sliceStepS, activated_eq_started hslice, State.sch_setSch_self, if_pos hr]
  · rw [started_of_chain hchain] at hr ⊢
    rw [State.setSch_sch, serviceChannelS_chain hp hmas hchain, chainStepS, if_neg (not_not.2 hr),
      if_pos (by rw [htag, hend]; rfl)]

/-! ### Services that take a fatal error -/

/-- A service whose sub-step is fatal takes that fatal error (R340, R400). -/
theorem ServesS.takesFatal {r : FaultRecord} (h : ServesS s c) (hsub : serviceChannelS c s = .fatal r u) :
    exec .serviceS s = .next (takeFatal .S s u r) := by
  rw [exec_serviceS, execServiceS, h.run, hsub, settle]

/-- After such a service the engine is as it was, plus the record (R400, R404). -/
theorem ServesS.fatal {r : FaultRecord} {calls : List Event} (h : ServesS s c)
    (hsub : serviceChannelS c s = .fatal r u) (hlog : u.log = s.log ++ calls) :
    ∃ t r', exec .serviceS s = .next t ∧ r' = r ∧ t.engS = { s.engS with fault := some r' } ∧
      t.response = .fault r' ∧ t.log = s.log ++ calls :=
  ⟨_, r, h.takesFatal hsub, rfl, rfl, rfl, hlog⟩

/-! ### The word of a started channel -/

/-- Starting a slice leaves the control word, the address and the request flag as they are (R346). -/
theorem SChannel.started_chcr (x : SChannel) : x.started.chcr = x.chcr := by rw [x.started_frame]

theorem SChannel.started_madr (x : SChannel) : x.started.madr = x.madr := by rw [x.started_frame]

theorem SChannel.started_drq (x : SChannel) : x.started.drq = x.drq := by rw [x.started_frame]

/-- A service of a channel with words left that sends to its peer (R342 to R344, R348, R350). -/
theorem serviceChannelS_toPeer (hp : s.cfg.peerPresentS[c] = true) (hmas : (s.sch c).chcr.getLsbD 1 = false)
    (hm : (s.sch c).chcr.extractLsb' 9 2 = 1 ∨ (s.sch c).chcr.extractLsb' 9 2 = 3)
    (hr : (s.sch c).started.remaining ≠ 0) (hd : (s.sch c).chcr.getLsbD 0 = true) :
    serviceChannelS c s = transferToPeerS c (s.setSch c (s.sch c).started) := by
  rw [serviceChannelS_transfer hp hmas hm hr, transferWordS, State.sch_setSch_self, SChannel.started_chcr]
  exact if_pos hd

/-- The same for a channel that receives from its peer. -/
theorem serviceChannelS_toMemory (hp : s.cfg.peerPresentS[c] = true) (hmas : (s.sch c).chcr.getLsbD 1 = false)
    (hm : (s.sch c).chcr.extractLsb' 9 2 = 1 ∨ (s.sch c).chcr.extractLsb' 9 2 = 3)
    (hr : (s.sch c).started.remaining ≠ 0) (hd : (s.sch c).chcr.getLsbD 0 = false) :
    serviceChannelS c s = transferToMemoryS c (s.setSch c (s.sch c).started) := by
  rw [serviceChannelS_transfer hp hmas hm hr, transferWordS, State.sch_setSch_self, SChannel.started_chcr]
  exact if_neg (by rw [sDir, hd]; decide)

/-- The bus read and the push of a started channel: the calls at its own address, its peer free to set its request flag
(R112, R350). -/
theorem CallsS.startedPush (c : SChan) (s : State) (accepted : Bool) :
    CallsS c { (s.sch c).started with drq := (answerS s c).request.getD (s.sch c).drq }
      [.memReadS (busAddrS (s.sch c).madr), .pushS c (s.memS.readWord (busAddrS (s.sch c).madr).toNat) accepted] s
      (afterCallS c (.pushS c (s.memS.readWord (busAddrS (s.sch c).madr).toNat) accepted)
        ((s.setSch c (s.sch c).started).record (.memReadS (busAddrS (s.sch c).madr)))) := by
  have hcalls := (((CallsS.refl c s).setSch (s.sch c).started).record (.memReadS (busAddrS (s.sch c).madr))).afterCall
    (.pushS c (s.memS.readWord (busAddrS (s.sch c).madr).toNat) accepted)
  rw [answerS_record, answerS_setSch, SChannel.started_drq] at hcalls
  exact hcalls

/-! ### The tag of a chain -/

/-- Calls of the ports do not halt the engine. -/
theorem CallsS.fault {x : SChannel} {calls : List Event} (h : CallsS c x calls s u) :
    u.engS.fault = s.engS.fault := by rw [← h.engine]

/-- A service that has read both words of a tag runs it in the state after the read: a decode raises no fatal error
(R275, R349). -/
theorem ServesS.runsTag {g : STag} (hs : ServesS s c) (hsub : serviceChannelS c s = commitTagS c g u)
    (hf : u.engS.fault = none) : exec .serviceS s = exec (.sTag c g) u := by
  obtain ⟨v, hv, -⟩ := (CallsS.refl c u).commitTag g
  have hn : ¬halted .S u = true := by rw [halted_S, hf]; decide
  rw [exec_serviceS, execServiceS, hs.run, exec_sTag, execSTag, runTagS, if_neg hn, hsub, hv, settle, settle]

/-- A tag read from memory: both words, then the decode (R349). -/
theorem tagStepS_memory (hp : s.cfg.tagFromPeerS[c] = false) :
    tagStepS c s = commitTagS c (unpackSTag (busReadS s (s.sch c).tadr) (busReadS s ((s.sch c).tadr + 4)))
      (afterBusReadS ((s.sch c).tadr + 4) (afterBusReadS (s.sch c).tadr s)) :=
  if_neg (by rw [hp]; decide)

theorem tagStepS_peer (hp : s.cfg.tagFromPeerS[c] = true) : tagStepS c s = tagFromPeerS c s := if_pos hp

end Sys2Proof.Machine

open Sys2Proof Sys2Proof.Machine

/-- Settles O11, by where the tag comes from: either way the service is the end of a tag step, which is what the tag row
runs. -/
theorem serviceSRunsTheFetchedTag : Obligations.ServiceSRunsTheFetchedTag := by
  intro s c hs hp hmas hm hr hn
  have htag := serviceChannelS_tag hp hmas hm hr hn
  refine ⟨fun hmem => ?_, fun w1 hpeer hheld ha => ?_⟩
  · exact hs.runsTag (htag.trans (tagStepS_memory hmem)) hs.sound
  · rw [afterPopS, ha]
    exact hs.runsTag (htag.trans ((tagStepS_peer hpeer).trans (tagFromPeerS_second ha hheld)))
      (((CallsS.refl c s).afterCall _).fault.trans hs.sound)

/-- Settles O49: the sub-step is one pop, then the word held. -/
theorem peerTagFirstWordIsHeld : Obligations.PeerTagFirstWordIsHeld := by
  intro s c w hs hp hmas hm hr hn hpeer hheld ha
  have hsub := (serviceChannelS_tag hp hmas hm hr hn).trans
    ((tagStepS_peer hpeer).trans (tagFromPeerS_first ha hheld))
  have hpop := (CallsS.refl c s).afterCall (.popS c (some w))
  have hends := (hpop.setSch { (afterCallS c (.popS c (some w)) s).sch c with tagBuf := w, tagWords := true }).rest
  refine ⟨_, hs.done hsub, ?_, fun a => ?_⟩
  · rw [hpop.channel] at hends ⊢
    exact hends
  · rw [State.memS_respond, State.memS_setSch, memS_afterCallS]

/-- Settles O50: the sub-step is one bus read and one push of the started channel, then the end of the word. -/
theorem serviceSMovesAWordToThePeer : Obligations.ServiceSMovesAWordToThePeer := by
  intro s c hs hp hmas hm hr hd ha
  have hsub := (serviceChannelS_toPeer hp hmas hm hr hd).trans (transferToPeerS_done ha)
  rw [State.sch_setSch_self, SChannel.started_madr, State.memS_setSch] at hsub
  refine ⟨_, hs.done hsub, (CallsS.startedPush c s true).endOfWord, fun a => ?_⟩
  rw [State.memS_respond, memS_endOfWordS, memS_afterCallS, State.memS_record, State.memS_setSch]

/-- Settles O52: the sub-step is the completion of the started channel alone. -/
theorem emptySlicesComplete : Obligations.EmptySlicesComplete := by
  intro s c hs hp hmas hr hm
  refine ⟨_, hs.done (serviceChannelS_complete hp hmas hr hm), ((CallsS.refl c s).setSch _).complete, fun a => ?_⟩
  rw [State.memS_respond, memS_completeS, State.memS_setSch]

/-- Settles O53: each fatal error by its sub-step, which made the calls up to the one that failed and no more. -/
theorem fatalServicesOfEngineS : Obligations.FatalServicesOfEngineS := by
  intro s c hs
  refine ⟨fun hp => hs.takesFatal (serviceChannelS_unmodelledChannel hp),
    fun hp h => hs.takesFatal (serviceChannelS_unmodelledMode hp h),
    fun hp hmas hm hr => ⟨fun hd ha => ?_, fun hd ha => ?_⟩, fun hp hmas hm hr hn hpeer ha => ?_⟩
  · have hsub := (serviceChannelS_toPeer hp hmas hm hr hd).trans (transferToPeerS_full ha)
    rw [State.sch_setSch_self, SChannel.started_madr, State.memS_setSch] at hsub
    exact hs.fatal hsub (CallsS.startedPush c s false).log
  · exact hs.fatal ((serviceChannelS_toMemory hp hmas hm hr hd).trans (transferToMemoryS_none ha))
      (((CallsS.refl c s).setSch _).afterCall _).log
  · exact hs.fatal ((serviceChannelS_tag hp hmas hm hr hn).trans ((tagStepS_peer hpeer).trans (tagFromPeerS_none ha)))
      ((CallsS.refl c s).afterCall _).log

end

section
/-! PROOFS. Interrupts and halted engines (60_exceptions.md R403, R411, R416, R422 to R425): the raises of a step are the
rising edges of the master flags (`RaisesEdges`); what a halted engine answers; CPCOND; the invariant at reset. -/

namespace Sys2Proof.Machine

/-! ### Rising edges -/

/-- From s to t the master flag of engine e goes from 0 to 1, for engine S while MID is clear (R411, R416). -/
def rises (e : Engine) (s t : State) : Bool :=
  match e with
  | .P => !s.engP.master && t.engP.master
  | .S => !s.engS.mif && t.engS.mif && !s.engS.dmacinten.getLsbD 1

/-- What t adds to the log of s holds one raise of each engine whose master flag rises, and no other raise (R422). -/
def RaisesEdges (s t : State) : Prop :=
  ∃ l, t.log = s.log ++ l ∧ ∀ e, l.count (.intcRaise e) = if rises e s t then 1 else 0

section Edges

variable {s t : State} {e : Engine} {calls : List Event}

theorem rises_P_of_master_eq (h : t.engP.master = s.engP.master) : rises .P s t = false := by
  rw [rises, h, Bool.not_and_self]

theorem rises_S_of_mif_eq (h : t.engS.mif = s.engS.mif) : rises .S s t = false := by
  rw [rises, h, Bool.not_and_self, Bool.false_and]

/-- A flag that is clear afterwards has not risen. -/
theorem rises_P_of_master_false (h : t.engP.master = false) : rises .P s t = false := by
  rw [rises, h, Bool.and_false]

theorem rises_S_of_mif_false (h : t.engS.mif = false) : rises .S s t = false := by
  rw [rises, h, Bool.and_false, Bool.false_and]

/-- Calls that are no raises, then the raise of engine e if its flag rises, the other engine's flag not rising. -/
theorem RaisesEdges.of_engine
    (hlog : t.log = s.log ++ calls ++ if rises e s t then [.intcRaise e] else [])
    (hcalls : ∀ e', Event.intcRaise e' ∉ calls) (hother : ∀ e', e' ≠ e → rises e' s t = false) :
    RaisesEdges s t := by
  refine ⟨_, hlog.trans (List.append_assoc _ _ _), fun e' => ?_⟩
  rw [List.count_append, List.count_eq_zero.2 (hcalls e'), Nat.zero_add]
  by_cases he : e' = e
  · subst he
    split
    · exact List.count_singleton_self
    · exact List.count_nil
  · rw [hother e' he]
    refine List.count_eq_zero.2 fun hmem => he ?_
    exact Event.intcRaise.inj (eq_of_mem_ite_singleton hmem)

/-- Calls that are no raises, neither flag rising. -/
theorem RaisesEdges.of_calls (hlog : t.log = s.log ++ calls) (hcalls : ∀ e, Event.intcRaise e ∉ calls)
    (hP : rises .P s t = false) (hS : rises .S s t = false) : RaisesEdges s t := by
  refine .of_engine (e := .P) ?_ hcalls fun e he => ?_
  · rw [hP, hlog]
    exact (List.append_nil _).symm
  · cases e with
    | P => exact absurd rfl he
    | S => exact hS

/-- Nothing is logged, and neither flag rises. -/
theorem RaisesEdges.of_log_eq (hlog : t.log = s.log) (hP : rises .P s t = false) (hS : rises .S s t = false) :
    RaisesEdges s t :=
  .of_calls (calls := []) (by rw [hlog, List.append_nil]) (fun _ => List.not_mem_nil) hP hS

/-- Nothing is logged, and the flags are as they were. -/
theorem RaisesEdges.of_flags_eq (hlog : t.log = s.log) (hP : t.engP.master = s.engP.master)
    (hS : t.engS.mif = s.engS.mif) : RaisesEdges s t :=
  .of_log_eq hlog (rises_P_of_master_eq hP) (rises_S_of_mif_eq hS)

/-- Engine P's calls and its raise, as R411 records it; engine S's flag is as it was. -/
theorem RaisesEdges.of_engineP
    (hlog : t.log = s.log ++ calls ++ if t.engP.master && !s.engP.master then [.intcRaise .P] else [])
    (hcalls : ∀ e, Event.intcRaise e ∉ calls) (hS : t.engS.mif = s.engS.mif) : RaisesEdges s t := by
  rw [Bool.and_comm] at hlog
  refine .of_engine (e := .P) hlog hcalls fun e he => ?_
  cases e with
  | P => exact absurd rfl he
  | S => exact rises_S_of_mif_eq hS

/-- Engine S's calls and its raise, as R416 records it; engine P's flag is as it was. -/
theorem RaisesEdges.of_engineS
    (hlog : t.log = s.log ++ calls ++
      if t.engS.mif && !s.engS.mif && !s.engS.dmacinten.getLsbD 1 then [.intcRaise .S] else [])
    (hcalls : ∀ e, Event.intcRaise e ∉ calls) (hP : t.engP.master = s.engP.master) : RaisesEdges s t := by
  rw [Bool.and_comm t.engS.mif] at hlog
  refine .of_engine (e := .S) hlog hcalls fun e he => ?_
  cases e with
  | P => exact rises_P_of_master_eq hP
  | S => exact absurd rfl he

/-- The answer to the caller is no part of it. -/
theorem RaisesEdges.respond (h : RaisesEdges s t) (r : Response) : RaisesEdges s (t.respond r) := h

/-! ### The shared operations -/

theorem respond_raises (s : State) (r : Response) : RaisesEdges s (s.respond r) := .of_flags_eq rfl rfl rfl

theorem readReg_raises (e : Engine) (v : Word) (s : State) : RaisesEdges s (readReg e v s) := by
  unfold readReg
  split <;> exact respond_raises s _

theorem writeReg_raises (h : RaisesEdges s t) (e : Engine) : RaisesEdges s (writeReg e t s) := by
  unfold writeReg
  split
  · exact respond_raises s _
  · exact h.respond _

/-- A re-evaluation from sets that were just written, the flag not yet (R410, R411). -/
theorem reevalP_raises {x : EngineP} (h : x.master = s.engP.master) : RaisesEdges s (reevalP (s.setEngP x)) := by
  rw [reevalP_eq]
  exact .of_engineP (calls := []) (by rw [List.append_nil, ← h]; rfl) (fun _ => List.not_mem_nil) rfl

/-- The same for engine S, whose MID is not written with the sets (R415, R416). -/
theorem reevalS_raises {x : EngineS} (h : x.mif = s.engS.mif) (hmid : x.dmacinten = s.engS.dmacinten) :
    RaisesEdges s (reevalS (s.setEngS x)) := by
  rw [reevalS_eq]
  exact .of_engineS (calls := []) (by rw [List.append_nil, ← h, ← hmid]; rfl) (fun _ => List.not_mem_nil) rfl

/-- A fatal error whose operation made calls that are no raises: no flag changes (R404). -/
theorem takeFatal_raises {u : State} (hlog : u.log = s.log ++ calls) (hcalls : ∀ e, Event.intcRaise e ∉ calls)
    (hP : u.engP.master = s.engP.master) (hS : u.engS.mif = s.engS.mif) (e : Engine) (r : FaultRecord) :
    RaisesEdges s (takeFatal e s u r) := by
  cases e with
  | P => exact .of_calls hlog hcalls (rises_P_of_master_eq rfl) (rises_S_of_mif_eq hS)
  | S => exact .of_calls hlog hcalls (rises_P_of_master_eq hP) (rises_S_of_mif_eq rfl)

/-! ### Services -/

theorem SubStep.okP.settle_raises {c : PChan} {sub : SubStep} (h : sub.okP c s) :
    RaisesEdges s (settle .P c.val s sub) := by
  cases sub with
  | done u =>
    obtain ⟨x, fin, calls, hends, hcalls, -⟩ := h
    exact .of_engineP hends.log (intcRaise_notMem fun e he => (hcalls e he).2) (by rw [settle, hends.engS])
  | fatal r u =>
    obtain ⟨x, calls, hends, hcalls, -⟩ := h
    have hmif : u.engS.mif = s.engS.mif := by rw [hends.engS]
    exact takeFatal_raises hends.log (intcRaise_notMem fun e he => (hcalls e he).2) hends.master hmif .P r

theorem SubStep.okS.settle_raises {c : SChan} {sub : SubStep} (h : sub.okS c s) :
    RaisesEdges s (settle .S c.val s sub) := by
  cases sub with
  | done u =>
    obtain ⟨x, fin, calls, hends, hcalls, -⟩ := h
    exact .of_engineS hends.log (intcRaise_notMem fun e he => (hcalls e he).2) (by rw [settle, hends.engP])
  | fatal r u =>
    obtain ⟨x, calls, hends, hcalls, -⟩ := h
    have hmif : u.engS.mif = s.engS.mif := by rw [← hends.engine]
    exact takeFatal_raises hends.log (intcRaise_notMem fun e he => (hcalls e he).2) (by rw [hends.engP]) hmif .S r

theorem runServiceP_raises (s : State) : RaisesEdges s (runServiceP s) := by
  rcases runServiceP_cases s with ⟨he, -⟩ | he | ⟨c, -, he⟩ <;> rw [he]
  case inl => exact respond_raises s _
  case inr.inl => exact respond_raises s _
  case inr.inr => exact (serviceChannelP_okP c s).settle_raises

theorem runServiceS_raises (s : State) : RaisesEdges s (runServiceS s) := by
  rcases runServiceS_cases s with ⟨he, -⟩ | he | ⟨c, -, he⟩ <;> rw [he]
  case inl => exact respond_raises s _
  case inr.inl => exact respond_raises s _
  case inr.inr => exact (serviceChannelS_okS c s).settle_raises

/-! ### Register writes -/

/-- A write row of BCR, of the word or of a lane, is the one write of BCR at some offset (R223). -/
theorem writeRow_bcr_run {c : SChan} {k : Nat} {w : AccessWidth} {v : Word} {i : Instr} {r : RegRef}
    (hr : r = .sCh c .bcr) (h : writeRow r k w v = some i) :
    ∃ k' w' v', ∀ s, exec i s = .next (wrSBcr c k' w' v' s) := by
  unfold writeRow at h
  split at h <;> cases hr <;> cases h
  case h_1 => exact ⟨_, _, _, exec_wrSBcrAt0 c w _⟩
  case h_2 => exact ⟨_, _, _, exec_wrSBcrAt1 c _⟩
  case h_3 => exact ⟨_, _, _, exec_wrSBcrAt2 c _ _⟩
  case h_4 => exact ⟨_, _, _, exec_wrSBcrAt2 c _ _⟩
  case h_5 => exact ⟨_, _, _, exec_wrSBcrAt3 c _⟩

/-- A 32-bit write row stores a state with the raises of its edges: a plain register holds no flag and re-evaluates none;
D_STAT, DICR and DICR2 re-evaluate theirs (R209, R233, R235). -/
theorem writeRow_word_raises {r : RegRef} {v : Word} {i : Instr} (h : writeRow r 0 .w32 v = some i) (s : State) :
    ∃ t, exec i s = .next (writeReg r.engine t s) ∧ RaisesEdges s t := by
  cases r with
  | pCh c q =>
    obtain ⟨i', hrow, hexec⟩ := writeRow_pCh c q v
    obtain rfl : i' = i := Option.some.inj (hrow.symm.trans h)
    exact ⟨_, hexec s, .of_flags_eq rfl rfl rfl⟩
  | sCh c q =>
    obtain ⟨i', hrow, hexec⟩ := writeRow_sCh c q v
    obtain rfl : i' = i := Option.some.inj (hrow.symm.trans h)
    exact ⟨_, hexec s, .of_flags_eq rfl rfl rfl⟩
  | pWide q =>
    cases q <;> obtain rfl := Option.some.inj h
    case dCtrl => exact ⟨_, exec_wrPDCtrl v s, .of_flags_eq rfl rfl rfl⟩
    case dStat => exact ⟨_, exec_wrPDStat v s, reevalP_raises rfl⟩
    case dPcr => exact ⟨_, exec_wrPDPcr v s, .of_flags_eq rfl rfl rfl⟩
  | sWide q =>
    cases q <;> obtain rfl := Option.some.inj h
    case dicr => exact ⟨_, exec_wrSDicr v s, reevalS_raises rfl rfl⟩
    case dicr2 => exact ⟨_, exec_wrSDicr2 v s, reevalS_raises rfl rfl⟩
    case dpcr => exact ⟨_, exec_wrSDpcr v s, .of_flags_eq rfl rfl rfl⟩
    case dpcr2 => exact ⟨_, exec_wrSDpcr2 v s, .of_flags_eq rfl rfl rfl⟩
    case dmacen => exact ⟨_, exec_wrSDmacen v s, .of_flags_eq rfl rfl rfl⟩
    case dmacinten => exact ⟨_, exec_wrSDmacinten v s, .of_flags_eq rfl rfl rfl⟩

theorem writeRow_raises {r : RegRef} {k : Nat} {w : AccessWidth} {v : Word} {i : Instr}
    (h : writeRow r k w v = some i) (s : State) :
    ∃ t, exec i s = .next (writeReg r.engine t s) ∧ RaisesEdges s t := by
  obtain ⟨rfl, rfl⟩ | ⟨⟨c, rfl⟩, -⟩ := takes_of_writeRow h
  · exact writeRow_word_raises h s
  · obtain ⟨k', w', v', hexec⟩ := writeRow_bcr_run rfl h
    exact ⟨_, hexec s, .of_flags_eq rfl rfl rfl⟩

/-! ### Operations and steps -/

theorem rejectAccess_raises {err : DecodeError} (h : rejectAccess err s = .next t) : RaisesEdges s t := by
  rcases rejectAccess_cases h with rfl | ⟨e, r, -, -, -, rfl⟩
  · exact respond_raises s _
  · exact takeFatal_raises (List.append_nil _).symm (fun _ => List.not_mem_nil) rfl rfl e r

/-- An operation that decodes: a tag is no operation, so the instruction is a register access or a port operation. -/
theorem exec_raises_of_decode {o : Operation} {i : Instr} (hd : decode o = .ok i) (s : State) :
    ∃ t, exec i s = .next t ∧ RaisesEdges s t := by
  cases o with
  | read a w =>
    obtain ⟨r, k, hrow⟩ := readRow_of_decode hd
    exact ⟨_, readRow_regValue hrow s, readReg_raises _ _ s⟩
  | write a w v =>
    obtain ⟨r, k, hrow⟩ := writeRow_of_decode hd
    obtain ⟨t, hexec, ht⟩ := writeRow_raises hrow s
    exact ⟨_, hexec, writeReg_raises ht _⟩
  | serviceP => cases hd; exact ⟨_, rfl, runServiceP_raises s⟩
  | serviceS => cases hd; exact ⟨_, rfl, runServiceS_raises s⟩
  | setRequestP c b => cases hd; exact ⟨_, rfl, .of_flags_eq rfl rfl rfl⟩
  | setRequestS c b => cases hd; exact ⟨_, rfl, .of_flags_eq rfl rfl rfl⟩
  | resetP => cases hd; exact ⟨_, rfl, .of_log_eq rfl (rises_P_of_master_false rfl) (rises_S_of_mif_eq rfl)⟩
  | resetS => cases hd; exact ⟨_, rfl, .of_log_eq rfl (rises_P_of_master_eq rfl) (rises_S_of_mif_false rfl)⟩
  | cpcond => cases hd; exact ⟨_, rfl, respond_raises s _⟩

theorem runOperation_raises {o : Operation} (h : runOperation o s = .next t) : RaisesEdges s t := by
  cases hd : decode o with
  | error err => exact rejectAccess_raises (runOperation_error hd s ▸ h)
  | ok i =>
    obtain ⟨t', hexec, ht⟩ := exec_raises_of_decode hd s
    rw [runOperation_ok hd, hexec] at h
    exact Host.Outcome.next.inj h ▸ ht

theorem setMemP_raises (s : State) (m : Memory) : RaisesEdges s (s.setMemP m) := .of_flags_eq rfl rfl rfl

theorem setMemS_raises (s : State) (m : Memory) : RaisesEdges s (s.setMemS m) := .of_flags_eq rfl rfl rfl

theorem setSpr_raises (s : State) (m : Memory) : RaisesEdges s (s.setSpr m) := .of_flags_eq rfl rfl rfl

/-- A write by another agent is no port call of the core, and reaches no flag (R120). -/
theorem runPending_raises {p : Pending} (h : runPending p s = .next t) : RaisesEdges s t := by
  cases p with
  | op o => exact runOperation_raises h
  | memP a v => cases h; exact setMemP_raises s _
  | memS a v => cases h; exact setMemS_raises s _
  | spr a v => cases h; exact setSpr_raises s _

theorem step_raises (h : step s = .next t) : RaisesEdges s t := by
  cases hl : s.pending with
  | nil =>
    rw [step_nil hl] at h
    cases h
    exact .of_flags_eq rfl rfl rfl
  | cons p rest =>
    rw [step_cons hl] at h
    have hrest : RaisesEdges { s with pending := rest } t := runPending_raises h
    exact hrest

end Edges

/-! ### Halted engines -/

/-- The instructions that a halted engine still takes (R403, R425). -/
inductive TakenHalted : Instr → Prop where
  | setRequestP (c : PChan) (b : Bool) : TakenHalted (.setRequestP c b)
  | setRequestS (c : SChan) (b : Bool) : TakenHalted (.setRequestS c b)
  | resetP : TakenHalted .resetP
  | resetS : TakenHalted .resetS
  | cpcond : TakenHalted .cpcond

section Halted

variable {s : State} {e : Engine}

/-- Any other instruction of a halted engine makes no step (R403). -/
theorem exec_halted {i : Instr} (hi : instrEngine i = some e) (hh : halted e s = true) (ht : ¬TakenHalted i) :
    exec i s = .next (s.respond .noStep) := by
  cases shape i with
  | read _ e' v he h =>
    obtain rfl : e' = e := Option.some.inj (he.symm.trans hi)
    rw [h, readReg_noStep _ hh]
  | writeP _ he f h =>
    obtain rfl : .P = e := Option.some.inj (he.symm.trans hi)
    rw [h, writeReg_noStep _ hh]
  | writeS _ he f h =>
    obtain rfl : .S = e := Option.some.inj (he.symm.trans hi)
    rw [h, writeReg_noStep _ hh]
  | tagP _ he fam c g res h =>
    obtain rfl : .P = e := Option.some.inj (he.symm.trans hi)
    rw [h, runTagP, if_pos hh]
  | tagS c g =>
    obtain rfl : .S = e := Option.some.inj hi
    exact congrArg _ (if_pos hh)
  | serviceP =>
    obtain rfl : .P = e := Option.some.inj hi
    exact congrArg _ (if_pos hh)
  | serviceS =>
    obtain rfl : .S = e := Option.some.inj hi
    exact congrArg _ (if_pos hh)
  | setRequestP c b => exact absurd (.setRequestP c b) ht
  | setRequestS c b => exact absurd (.setRequestS c b) ht
  | resetP => exact absurd .resetP ht
  | resetS => exact absurd .resetS ht
  | cpcond => exact absurd .cpcond ht

/-- An address of a window names a register of its engine, or is refused on its engine (R109). -/
theorem decodeAddress_window {a : Word} (hw : windowOf a = some e) (w : AccessWidth) (kind : AccessKind) :
    (∃ r k, r.engine = e ∧ decodeAddress a w kind = .ok (r, k)) ∨
      decodeAddress a w kind = .error (.unmodelledRegister e a w kind) := by
  cases h : decodeAddress a w kind with
  | ok p =>
    obtain ⟨he, -⟩ := decodeAddress_ok h
    exact .inl ⟨p.1, p.2, Option.some.inj (he.symm.trans hw), rfl⟩
  | error err =>
    cases hl : lookupReg e (wordAddress a) with
    | none => exact .inr (by simpa only [decodeAddress, hw, hl] using h.symm)
    | some r => simp only [decodeAddress, hw, hl] at h; cases h

theorem rejectAccess_unmodelled_halted (hh : halted e s = true) (a : Word) (w : AccessWidth) (kind : AccessKind) :
    rejectAccess (.unmodelledRegister e a w kind) s = .next (s.respond .noStep) := if_pos hh

theorem rejectAccess_unsupported_halted {r : RegRef} (hh : halted r.engine s = true) (a : Word) (w : AccessWidth)
    (kind : AccessKind) : rejectAccess (.unsupportedWidth r a w kind) s = .next (s.respond .noStep) := if_pos hh

/-- A read in the window of a halted engine makes no step, whether or not it finds a register (R403). -/
theorem runOperation_read_halted {a : Word} (hw : windowOf a = some e) (hh : halted e s = true) (w : AccessWidth) :
    runOperation (.read a w) s = .next (s.respond .noStep) := by
  obtain ⟨r, k, rfl, ha⟩ | ha := decodeAddress_window hw w .read
  · cases hrow : readRow r k w with
    | some i =>
      have hd : decode (.read a w) = .ok i := by simp only [decode, ha, hrow]
      rw [runOperation_ok hd, readRow_regValue hrow, readReg_noStep _ hh]
    | none =>
      have hd : decode (.read a w) = .error (.unsupportedWidth r a w .read) := by simp only [decode, ha, hrow]
      rw [runOperation_error hd, rejectAccess_unsupported_halted hh]
  · have hd : decode (.read a w) = .error (.unmodelledRegister e a w .read) := by simp only [decode, ha]
    rw [runOperation_error hd, rejectAccess_unmodelled_halted hh]

/-- The same for a write. -/
theorem runOperation_write_halted {a : Word} (hw : windowOf a = some e) (hh : halted e s = true) (w : AccessWidth)
    (v : Word) : runOperation (.write a w v) s = .next (s.respond .noStep) := by
  obtain ⟨r, k, rfl, ha⟩ | ha := decodeAddress_window hw w .write
  · cases hrow : writeRow r k w v with
    | some i =>
      have hd : decode (.write a w v) = .ok i := by simp only [decode, ha, hrow]
      obtain ⟨t, hexec⟩ := writeRow_reg hrow s
      rw [runOperation_ok hd, hexec, writeReg_noStep _ hh]
    | none =>
      have hd : decode (.write a w v) = .error (.unsupportedWidth r a w .write) := by simp only [decode, ha, hrow]
      rw [runOperation_error hd, rejectAccess_unsupported_halted hh]
  · have hd : decode (.write a w v) = .error (.unmodelledRegister e a w .write) := by simp only [decode, ha]
    rw [runOperation_error hd, rejectAccess_unmodelled_halted hh]

end Halted

/-! ### CPCOND -/

theorem getLsbD_cpc (v : Word) (c : PChan) : (cpc v).getLsbD c.val = v.getLsbD c.val := by
  rw [cpc, BitVec.getLsbD_setWidth, decide_eq_true c.isLt, Bool.true_and]

/-- CPCOND, by the channel (R424). -/
theorem cpcondOf_iff (e : EngineP) :
    cpcondOf e = true ↔ ∀ c : PChan, e.cis.getLsbD c.val = true ∨ e.dPcr.getLsbD c.val = false := by
  simp only [cpcondOf, List.all_eq_true, getLsbD_cpc, Bool.or_eq_true, Bool.not_eq_true', mem_pChan_all, forall_const]

end Sys2Proof.Machine

open Sys2Proof Sys2Proof.Machine

/-- Settles O54: a service ends as `EndsP` or `EndsS` says, with its raise last; of the writes only those of D_STAT, DICR
and DICR2 re-evaluate; RESET clears the flag, and no other step touches one. -/
theorem raisesAreRisingEdges : Obligations.RaisesAreRisingEdges := by
  intro s t h
  obtain ⟨l, hlog, hcount⟩ := step_raises h
  exact ⟨l, hlog, hcount .P, hcount .S⟩

/-- Settles O55, by the channel; with no channel under priority control each disjunct holds. -/
theorem cpcondReportsReadiness : Obligations.CpcondReportsReadiness := fun s =>
  ⟨cpcondOf s.engP, rfl, cpcondOf_iff s.engP, fun h => (cpcondOf_iff s.engP).2 fun c => .inr (h c)⟩

/-- Settles O58: both engines are as RESET leaves them, and an empty memory is canonical. -/
theorem invAtReset : Obligations.InvAtReset where
  pSound := (EngineP.reset_inv _).sound
  sSound := (EngineS.reset_inv _).sound
  pMaster := (EngineP.reset_inv _).master
  sMaster := (EngineS.reset_inv _).mif
  pFault := rfl
  sFault := rfl
  memP := ⟨rfl, rfl⟩
  memS := ⟨rfl, rfl⟩
  spr := ⟨rfl, rfl⟩

/-- Settles O28: an access to the window and an instruction of a halted engine make no step, but for those that it still
takes, each by its own meaning. -/
theorem haltedEnginesTakeNoStep : Obligations.HaltedEnginesTakeNoStep := by
  intro s
  constructor
  · intro hf
    have hh : halted .P s = true := Option.isSome_iff_ne_none.2 hf
    obtain ⟨b, hrun, hb, -⟩ := cpcondReportsReadiness s
    refine ⟨fun a w v hw => ⟨runOperation_read_halted hw hh w, runOperation_write_halted hw hh w v⟩,
      fun i hi hreset hcpcond hreq => exec_halted hi hh ?_, fun c b => ((setRequestWritesOneFlag s b).1 c).1,
      ⟨b, hrun, hb⟩, _, rfl, rfl⟩
    rintro (⟨c, b⟩ | _ | _ | _ | _)
    · exact hreq c b rfl
    · cases hi
    · exact hreset rfl
    · cases hi
    · exact hcpcond rfl
  · intro hf
    have hh : halted .S s = true := Option.isSome_iff_ne_none.2 hf
    refine ⟨fun a w v hw => ⟨runOperation_read_halted hw hh w, runOperation_write_halted hw hh w v⟩,
      fun i hi hreset hreq => exec_halted hi hh ?_, fun c b => ((setRequestWritesOneFlag s b).2 c).1, _, rfl, rfl⟩
    rintro (_ | ⟨c, b⟩ | _ | _ | _)
    · cases hi
    · exact hreq c b rfl
    · cases hi
    · exact hreset rfl
    · cases hi

end

section
/-! PROOFS. RESET (70_reset_and_hazards.md R460, R461): what it leaves of its engine, what D_STAT then reads, and the
service that then finds nothing to do. -/

namespace Sys2Proof.Machine

/-! ### The channels after RESET -/

theorem pch_resetEngineP (s : State) (c : PChan) : (resetEngineP s).pch c = PChannel.reset s.cfg.drqResetP[c] :=
  EngineP.reset_ch s.cfg c

theorem sch_resetEngineS (s : State) (c : SChan) : (resetEngineS s).sch c = SChannel.reset s.cfg.drqResetS[c] :=
  EngineS.reset_ch s.cfg c

/-! ### What comes after RESET -/

/-- A read of D_STAT by its address (R208). -/
theorem runOperation_read_dStat {s : State} (hf : s.engP.fault = none) :
    runOperation (.read 0x1000E010 .w32) s =
      .next { s with response := .value (dStatValue s.engP.cis s.engP.cim) } :=
  (runOperation_ok (decode_read0 (.pWide .dStat) .w32) s).trans (exec_read_P hf (exec_rdPDStat s))

theorem dStatValue_zero : dStatValue 0 0 = 0 := by decide

/-- RESET clears D_CTRL and so DMAE: whatever the request flags, no channel of engine P is served (R291, R463). -/
theorem runServiceP_resetEngineP (s : State) : runServiceP (resetEngineP s) = (resetEngineP s).respond .idle := by
  have henable : (resetEngineP s).engP.dCtrl.getLsbD 0 = false := BitVec.getLsbD_zero
  exact runServiceP_idle rfl (.inl henable)

/-- The same for engine S, whose enable bit is in DMACEN (R341, R463). -/
theorem runServiceS_resetEngineS (s : State) : runServiceS (resetEngineS s) = (resetEngineS s).respond .idle := by
  have henable : (resetEngineS s).engS.dmacen.getLsbD 0 = false := BitVec.getLsbD_zero
  exact runServiceS_idle rfl (.inl henable)

end Sys2Proof.Machine

open Sys2Proof Sys2Proof.Machine

/-- Settles O57, by the state RESET leaves (`resetEngineP`, `resetEngineS`): every part but the channels is a field of
the engine's reset value, D_STAT reads two empty sets, and a service finds its engine disabled. -/
theorem resetRestoresTheEngine : Obligations.ResetRestoresTheEngine := by
  intro s
  constructor
  · have hread : runOperation (.read 0x1000E010 .w32) (resetEngineP s) =
        .next { resetEngineP s with response := .value 0 } := by
      rw [← dStatValue_zero]; exact runOperation_read_dStat rfl
    exact ⟨resetEngineP s, exec_resetP s, pch_resetEngineP s, rfl, rfl, rfl, rfl, rfl, rfl, rfl, hread,
      congrArg _ (runServiceP_resetEngineP s)⟩
  · exact ⟨resetEngineS s, exec_resetS s, sch_resetEngineS s, rfl, rfl, rfl, rfl, rfl, rfl, rfl, rfl, rfl, rfl, rfl, rfl,
      rfl, rfl, congrArg _ (runServiceS_resetEngineS s)⟩

end
